-- ==== Sys2Proof/Word.lean ====
section
/-! DEFINITION. The word types of the part: bytes on its two serial sides, the microsecond count of R29,
and the ten sampled bits of one share line character (R78). -/

namespace Sys2Proof

/-- One byte of a frame or of a supervisor port message (R95, R185). -/
abbrev Byte := BitVec 8

/-- An instant on the tracker's microsecond count: 32 bits, wrapping (R29). -/
abbrev Micros := BitVec 32

/-- A 16-bit word: a reception counter (R93) or the check of a frame (R100). -/
abbrev Half := BitVec 16

/-- One character of the share line as the receiver sampled it (R78): bit 0 is the start bit, bits 1 to 8
the data bits from the least significant upward, bit 9 the stop bit. 1 is recessive, 0 is dominant. -/
abbrev Character := BitVec 10

/-- One conversion of a line, current or voltage channel (R47). -/
abbrev Conversion := BitVec 12

end Sys2Proof
end

