-- ==== Sys2Proof/Syntax.lean ====
section
/-! DEFINITION. The commands: one constructor of `Instr` for each row of spec/opcode_table.json, with the
operands the row needs from outside the part. -/

namespace Sys2Proof

/-- The plant inputs at one instant (R47, R51): three line-to-line voltages as two's-complement converter
results, the DC current and DC voltage results, and the heat-sink temperature in whole degrees Celsius
(used only when the channel is fitted and a conversion falls at the instant). -/
structure PlantInputs where
  lineAB : Conversion
  lineBC : Conversion
  lineCA : Conversion
  current : Conversion
  voltage : Conversion
  sink : Int
  deriving DecidableEq, Repr

/-- The six actions that follow one figure set. R56, R157 and R167 leave their order open; a boundary
command carries an order (assumption 4). -/
inductive Neighbour where
  /-- the Disturbance Classifier takes v (R62) -/
  | classifier
  /-- a DC_OVERCURRENT report, if one is made, reaches the Station Controller (R57) -/
  | overcurrent
  /-- an OVER_TEMPERATURE report, if one is made, reaches the Station Controller (R58) -/
  | overTemperature
  /-- the Station Controller makes its tests at sector boundaries (R10, R23) -/
  | controller
  /-- the Angle Regulator takes its update (R154) -/
  | regulator
  /-- the Gate Pulse Generator takes the boundary (R161) -/
  | generator
  deriving DecidableEq, Repr

/-- The commands of the part. The docstrings name the row's rule. -/
inductive Instr where
  /-- POWER_ON_RESET (R2): PORN or power application. -/
  | powerOnReset
  /-- SRST (R28, R195): the supervisor reset line is asserted. -/
  | srst
  /-- TRANSFER_START (R187): SCS is asserted. -/
  | transferStart
  /-- TRANSFER_END (R187, R188): SCS is deasserted; `sdi` holds the bits sampled on SDI since the part last
  took bits of this transfer, in the order they were sampled. -/
  | transferEnd (sdi : List Bool)
  /-- LOAD_CONFIG (R190): the port acts on a LOAD CONFIG in progress; `plant` is what the inputs show. -/
  | loadConfig (plant : PlantInputs)
  /-- SET_DEMAND (R193). -/
  | setDemand
  /-- READ_STATUS (R194). -/
  | readStatus
  /-- START (R9). -/
  | start
  /-- STOP (R21). -/
  | stop
  /-- STANDBY (R22). -/
  | standby
  /-- CLEAR_FAULT (R27). -/
  | clearFault
  /-- READ_PEER (R127). -/
  | readPeer
  /-- FORGET_PEER (R128). -/
  | forgetPeer
  /-- READ_EVENTS (R176). -/
  | readEvents
  /-- ACK_EVENTS (R177). -/
  | ackEvents
  /-- READ_FAULT (R182). -/
  | readFault
  /-- CAPTURE (R29): a rising zero crossing on ZCAB at the present time. -/
  | capture
  /-- LOSS_OF_SYNC (R38): the loss deadline is reached. -/
  | lossOfSync
  /-- SECTOR_BOUNDARY (R40): the time of the tracker's next boundary is reached. -/
  | sectorBoundary (plant : PlantInputs) (order : List Neighbour)
  /-- FREE_RUNNING_BOUNDARY (R48): the free-running timer expires. -/
  | freeRunningBoundary (plant : PlantInputs) (order : List Neighbour)
  /-- SAMPLE (R47): a sample instant of the sector in progress is reached. -/
  | sample (plant : PlantInputs)
  /-- RECOVERY_CONFIRM_TIMER_EXPIRY (R75). -/
  | recoveryConfirmTimerExpiry
  /-- FREQUENCY_TIMER_EXPIRY (R72). -/
  | frequencyTimerExpiry
  /-- BLOCKED_TIMER_EXPIRY (R20). -/
  | blockedTimerExpiry
  /-- LOW_LOAD_TIMER_EXPIRY (R24). -/
  | lowLoadTimerExpiry
  /-- SHARE_UPDATE (R135, R136): the share timer expires. -/
  | shareUpdate
  /-- PROTECTION_EDGE (R170, R171): input `n` is sampled at `level` (true is high). -/
  | protectionEdge (n : Fin 4) (level : Bool)
  /-- FIRING (R163): the fire time of the first pending entry is reached. -/
  | firing
  /-- PULSE_END (R164): gate output G(`g` + 1) reaches its pulse end. -/
  | pulseEnd (g : Fin 6)
  /-- SEEKING_END (R79): ten bit times of unbroken recessive level after configuration. -/
  | seekingEnd
  /-- LINE_BUSY (R80): the first start bit of a frame is found. -/
  | lineBusy
  /-- INTERFRAME_GAP_END (R80): eight bit times of recessive level after a frame. -/
  | interframeGapEnd
  /-- FRAME_ABANDONED (R80): twenty bit times of recessive level inside a frame. -/
  | frameAbandoned
  /-- FRAME_RECEIVED (R80, R102): the characters received since the part last took characters, up to the
  one that ends the frame. -/
  | frameReceived (characters : List Character)
  /-- ACCESS_SLOT (R81): a slot of the station begins. -/
  | accessSlot
  /-- FRAME_COMPLETED (R87): the last character sent reads back equal. -/
  | frameCompleted
  /-- COLLISION (R88): the characters read back of the frame in transmission, up to and including the one
  that differs from the character sent. -/
  | collision (readback : List Character)
  /-- ALERT_EXPIRY (R84): the head of the alert queue has waited 20 ms. -/
  | alertExpiry
  /-- PEER_SILENT (R120): the entry of station `n` reaches T_silent. -/
  | peerSilent (n : Fin 16)
  /-- PEER_LOST (R121): the entry of station `n` reaches T_lost. -/
  | peerLost (n : Fin 16)
  /-- SRST_RELEASE (R195): the host releases the supervisor reset line. -/
  | srstRelease
  deriving DecidableEq, Repr

end Sys2Proof
end

