-- ==== Sys2Proof/WellFormed.lean ====
section
/-! DEFINITION. Which commands are well formed: the operand checks that the types do not already make. -/

namespace Sys2Proof

/-- An order of the neighbours names each of the six exactly once. -/
def wholeOrder (order : List Neighbour) : Bool :=
  decide order.Nodup && decide (order.length = 6)

/-- The start bit of a received character is dominant (R78). -/
def startsDominant (c : Character) : Bool := !c.getLsbD 0

/-- A frame on the line has at most 22 characters (R80). -/
def lineCharacters (cs : List Character) : Bool :=
  decide (cs.length ≤ 22) && cs.all startsDominant

/-- The operands a command may carry. -/
def Instr.wellFormed : Instr → Bool
  | .powerOnReset => true
  | .srst => true
  | .transferStart => true
  | .transferEnd _ => true
  | .loadConfig _ => true
  | .setDemand => true
  | .readStatus => true
  | .start => true
  | .stop => true
  | .standby => true
  | .clearFault => true
  | .readPeer => true
  | .forgetPeer => true
  | .readEvents => true
  | .ackEvents => true
  | .readFault => true
  | .capture => true
  | .lossOfSync => true
  | .sectorBoundary _ order => wholeOrder order
  | .freeRunningBoundary _ order => wholeOrder order
  | .sample _ => true
  | .recoveryConfirmTimerExpiry => true
  | .frequencyTimerExpiry => true
  | .blockedTimerExpiry => true
  | .lowLoadTimerExpiry => true
  | .shareUpdate => true
  | .protectionEdge _ _ => true
  | .firing => true
  | .pulseEnd _ => true
  | .seekingEnd => true
  | .lineBusy => true
  | .interframeGapEnd => true
  | .frameAbandoned => true
  | .frameReceived characters => lineCharacters characters
  | .accessSlot => true
  | .frameCompleted => true
  | .collision readback => lineCharacters readback && !readback.isEmpty
  | .alertExpiry => true
  | .peerSilent _ => true
  | .peerLost _ => true
  | .srstRelease => true

end Sys2Proof
end

