-- ==== Sys2Proof/Config.lean ====
section
/-! DEFINITION. The configuration: the field values that one accepted LOAD CONFIG fixes until the next
power-on reset (R190 to R192), under the symbols of section 6.6 and of the table of R190. The spec leaves no
value of an instruction open, so there is no opaque free value here. -/

namespace Sys2Proof

/-- The configured edge of a protection input (R191). -/
inductive ProtectionEdge where
  | off | rising | falling | both
  deriving DecidableEq, Repr

/-- The configured action of a protection input (R191). -/
inductive ProtectionAction where
  | trip | standby | report
  deriving DecidableEq, Repr

/-- One point of the ride-through envelope (R191): a time in milliseconds and the least voltage figure
required from that time on. -/
structure EnvelopePoint where
  time : Nat
  figure : Nat
  deriving DecidableEq, Repr

/-- The 43 fields of LOAD CONFIG (R190), in the order of its table. -/
structure Configuration where
  /-- 1, station number -/
  station : Nat
  /-- 2, group -/
  group : Nat
  /-- 3, I_r in amperes -/
  rating : Nat
  /-- 4, I_fs in amperes -/
  currentFullScale : Nat
  /-- 5, N_pk in counts -/
  peakCount : Nat
  /-- 6, V_fs in volts -/
  voltageFullScale : Nat
  /-- 7, nominal frequency in hertz, 50 or 60 -/
  nominalHertz : Nat
  /-- 8, phase shift in tenths of a degree -/
  phaseShift : Int
  /-- 9, P_sh in milliseconds -/
  sharePeriod : Nat
  /-- 10, T_silent in milliseconds -/
  tSilent : Nat
  /-- 11, T_lost in milliseconds -/
  tLost : Nat
  /-- 12, R_up in amperes per second -/
  rampUp : Nat
  /-- 13, R_down -/
  rampDown : Nat
  /-- 14, R_restart -/
  rampRestart : Nat
  /-- 15, cover enable -/
  coverEnabled : Bool
  /-- 16, L in amperes -/
  coverLimit : Nat
  /-- 17, I_plant_min in amperes -/
  plantMinimum : Nat
  /-- 18, T_low in milliseconds -/
  tLow : Nat
  /-- 19, I_zero in amperes -/
  currentZero : Nat
  /-- 20, V_floor -/
  voltFloor : Nat
  /-- 21, V_full -/
  voltFull : Nat
  /-- 22, temperature channel fitted -/
  temperatureFitted : Bool
  /-- 23, T_derate in degrees Celsius -/
  tDerate : Nat
  /-- 24, T_max in degrees Celsius -/
  tMax : Nat
  /-- 25, V_sag -/
  voltSag : Nat
  /-- 26, V_rec -/
  voltRecovered : Nat
  /-- 27, T_rec in milliseconds -/
  tRecovery : Nat
  /-- 28, the envelope, points 1 to n in order -/
  envelope : List EnvelopePoint
  /-- 29, jump threshold in tenths of a degree -/
  jumpThreshold : Nat
  /-- 30, frequency band in tenths of a hertz -/
  frequencyBand : Nat
  /-- 31, T_freq_max in milliseconds -/
  tFrequencyMax : Nat
  /-- 32, T_block_max in milliseconds -/
  tBlockMax : Nat
  /-- 33, alpha_min in tenths of a degree -/
  alphaMin : Nat
  /-- 34, alpha_max -/
  alphaMax : Nat
  /-- 35, alpha_bias -/
  alphaBias : Nat
  /-- 36, Kp -/
  gainP : Nat
  /-- 37, Ki -/
  gainI : Nat
  /-- 38, integrator limit -/
  integratorLimit : Nat
  /-- 39, pulse width W in microseconds -/
  pulseWidth : Nat
  /-- 40, I_oc in amperes -/
  overcurrent : Nat
  /-- 41, V_dc_max in volts -/
  voltageMax : Nat
  /-- 42, edge and action of PROT0 to PROT3 -/
  inputs : Vector (ProtectionEdge × ProtectionAction) 4
  /-- 43, the classes of kinds 1 to 24: true is URGENT -/
  urgent : Vector Bool 24
  deriving DecidableEq, Repr

end Sys2Proof
end

