-- ==== Sys2Proof/Machine/State.lean ====
section
/-! DEFINITION. The state of the part, block by block as section 3.2 of the spec lists them, the reasons a
step can stop, and the state after power-on reset. Plain data throughout. -/

namespace Sys2Proof.Machine

/-! ### The Station Controller (R1 to R28) -/

/-- The eleven station states of R1. -/
inductive StationState where
  | unconfigured | off | syncing | starting | run | ride | blocked | restart | stopping | standby | tripped
  deriving DecidableEq, Repr

/-- The four disturbance kinds, in the order in which "the first kind" is taken (R13). -/
inductive DisturbanceKind where
  | sag | phase | frequency | sync
  deriving DecidableEq, Repr

/-- A ride-through context record (R13). -/
structure ContextRecord where
  kind : DisturbanceKind
  integrator : Int
  setpointAtEntry : Nat
  deriving DecidableEq, Repr

/-- The STOPPING destination when there is one (section 1.1). -/
inductive Destination where
  | off | standby
  deriving DecidableEq, Repr

/-- The STOPPING origin when there is one (R5). -/
inductive StoppingOrigin where
  | request | lowLoad
  deriving DecidableEq, Repr

/-- The standby origin when there is one (R5). -/
inductive StandbyOrigin where
  | request | lowLoad | protection | escalation | blockTimeout
  deriving DecidableEq, Repr

/-- What the Station Controller holds (section 1.1). -/
structure Station where
  state : StationState
  /-- context stack, bottom record first -/
  stack : List ContextRecord
  destination : Option Destination
  stoppingOrigin : Option StoppingOrigin
  standbyOrigin : Option StandbyOrigin
  lowLoadRunning : Bool
  lowLoadMs : Nat
  /-- BLOCKED timer: the instant it was started from 0, none when stopped (R20) -/
  blockedSince : Option Micros
  deriving DecidableEq, Repr

/-! ### The Grid Phase Tracker (R29 to R43) -/

inductive TrackerState where
  | unlocked | acquiring | locked
  deriving DecidableEq, Repr

/-- The next sector boundary: its time, its sector number and its schedule index (section 2.1). -/
structure Boundary where
  time : Micros
  sector : Nat
  index : Nat
  deriving DecidableEq, Repr

structure Tracker where
  state : TrackerState
  previous : Option Micros
  /-- plausible intervals, oldest first -/
  intervals : List Nat
  acquired : Nat
  anchor : Option Micros
  period : Nat
  figure : Nat
  next : Option Boundary
  deadline : Option Micros
  /-- index of the last boundary issued since lock, counted in the present schedule (R41) -/
  lastIndex : Option Int
  deriving DecidableEq, Repr

/-! ### The Sampling Unit (R44 to R60) -/

inductive TimingMode where
  | idle | free | tracked
  deriving DecidableEq, Repr

/-- The sector in progress (R46). -/
structure Sector where
  start : Micros
  base : Nat
  count : Nat
  deriving DecidableEq, Repr

/-- The latest figure set (R52 to R55). -/
structure Figures where
  lineAB : Nat
  lineBC : Nat
  lineCA : Nat
  voltage : Nat
  current : Nat
  dcVoltage : Nat
  /-- the θ of this figure set (R51, R56) -/
  sink : Option Int
  capabilityVolt : Nat
  capabilityThermal : Nat
  capability : Nat
  deriving DecidableEq, Repr

structure Sampler where
  mode : TimingMode
  sector : Option Sector
  windowAB : List Int
  windowBC : List Int
  windowCA : List Int
  currentSum : Nat
  voltageSum : Nat
  freeTimer : Option Micros
  cycle : Nat
  /-- θ: the result of the latest temperature conversion (R51) -/
  sink : Option Int
  figures : Figures
  overcurrent : Bool
  overTemperature : Bool
  dcLimit : Bool
  deriving DecidableEq, Repr

/-! ### The Disturbance Classifier (R61 to R77) -/

inductive ClassifierState where
  | inactive | normal | disturbed | outside | recovering
  deriving DecidableEq, Repr

/-- The active set: each kind present at most once, in no order of its own (section 4.1). -/
structure ActiveSet where
  sag : Bool
  phase : Bool
  frequency : Bool
  sync : Bool
  deriving DecidableEq, Repr

structure Classifier where
  state : ClassifierState
  active : ActiveSet
  onset : Option Micros
  elapsed : Option Nat
  confirm : Option Micros
  frequencyTimer : Option Micros
  outOfBand : Nat
  latestFigure : Option Nat
  deriving DecidableEq, Repr

/-- A transition of the classifier as reported to the controller (R63): the state it enters and whether it is
an onset. The active set travels in `State.classifier`. -/
structure Transition where
  entered : ClassifierState
  onset : Bool
  deriving DecidableEq, Repr

/-! ### Frames (R95 to R99) and the Share Line Interface (R78 to R92) -/

/-- The alert kinds of R95. -/
inductive AlertKind where
  | onset | block | recovered | trip | standby
  deriving DecidableEq, Repr

/-- The body of a SHARE frame (R95, R97). -/
structure ShareBody where
  stateCode : Nat
  sharePeriod : Nat
  voltage : Nat
  demand : Nat
  delivered : Nat
  capability : Nat
  shortfall : Nat
  headroom : Nat
  cover : Nat
  deriving DecidableEq, Repr

/-- The body of an ALERT frame (R95, R98). -/
structure AlertBody where
  kind : AlertKind
  stateCode : Nat
  voltage : Nat
  capability : Nat
  shortfall : Nat
  deriving DecidableEq, Repr

/-- The three frame kinds with their bodies (R95); a LEAVE has none (R99). -/
inductive Body where
  | share (body : ShareBody)
  | alert (body : AlertBody)
  | leave
  deriving DecidableEq, Repr

/-- A frame less its check, which is computed from the rest (R100). -/
structure Frame where
  station : Nat
  group : Nat
  first : Bool
  sequence : Byte
  body : Body
  deriving DecidableEq, Repr

inductive LineView where
  | inactive | seeking | busy | quiet
  deriving DecidableEq, Repr

/-- The frame under assembly: the data bytes received so far and the malformed mark (section 5). -/
structure Assembly where
  bytes : List Byte
  malformed : Bool
  deriving DecidableEq, Repr

/-- A frame of the alert queue with the time it was queued (R83). Own number, group, sequence, flag and
check are filled in when it starts (R82, R96). -/
structure QueuedFrame where
  body : Body
  queuedAt : Micros
  deriving DecidableEq, Repr

structure ShareLine where
  view : LineView
  quietAt : Option Micros
  assembly : Option Assembly
  /-- oldest first -/
  alertQueue : List QueuedFrame
  shareSlot : Option ShareBody
  transmission : Option Frame
  nextSequence : Byte
  firstFlag : Bool
  collisions : Nat
  highWater : Nat
  /-- the own slot that begins at the present instant has been taken (R81, assumption 32) -/
  slotTaken : Bool
  deriving DecidableEq, Repr

/-! ### The Frame Filter and the Peer Table (R93 to R130) -/

structure FrameFilter where
  station : Option Nat
  group : Option Nat
  accepted : Half
  checkErrors : Half
  otherGroup : Half
  duplicate : Half
  stale : Half
  deriving DecidableEq, Repr

inductive PeerStatus where
  | fresh | silent | lost
  deriving DecidableEq, Repr

/-- The Peer Table's verdict on a frame (R111). -/
inductive Verdict where
  | accepted | duplicate | stale
  deriving DecidableEq, Repr

/-- A Peer Table entry (R109). `agePhase` counts the microseconds since the age last rose (R119). -/
structure Peer where
  station : Nat
  status : PeerStatus
  lastState : Nat
  demand : Nat
  delivered : Nat
  capability : Nat
  shortfall : Nat
  headroom : Nat
  cover : Nat
  voltage : Nat
  sharePeriod : Option Nat
  lastSequence : Byte
  age : Nat
  agePhase : Nat
  missed : Nat
  deriving DecidableEq, Repr

/-! ### The Cover Allocator (R131 to R150) -/

/-- The three ramp steps of R132, in amperes. -/
structure Steps where
  up : Nat
  restart : Nat
  down : Nat
  deriving DecidableEq, Repr

structure Allocator where
  demand : Nat
  pendingDemand : Option Nat
  setpoint : Nat
  target : Nat
  shortfall : Nat
  headroom : Nat
  cover : Nat
  shortfallSum : Nat
  headroomSum : Nat
  groupDelivered : Nat
  latestC : Nat
  latestI : Nat
  latestDcLimit : Bool
  shareTimer : Option Micros
  /-- time and millisecond count of the last share update -/
  lastUpdate : Option (Micros × BitVec 32)
  ms : BitVec 32
  msPhase : Nat
  steps : Option Steps
  capabilityMarker : Bool
  dcHoldMarker : Bool
  deriving DecidableEq, Repr

/-! ### The Angle Regulator and the Gate Pulse Generator (R151 to R169) -/

inductive ClampSide where
  | low | high | none
  deriving DecidableEq, Repr

structure Regulator where
  integrator : Int
  lastAngle : Nat
  clampSide : ClampSide
  deriving DecidableEq, Repr

inductive GateMode where
  | inhibited | enabled
  deriving DecidableEq, Repr

/-- An entry of the pending firing list (section 9.3). Thyristor n of the spec is `thyristor` = n - 1. -/
structure PendingFiring where
  thyristor : Fin 6
  fireTime : Micros
  scheduledAt : Micros
  deriving DecidableEq, Repr

structure Gates where
  mode : GateMode
  latched : Option Nat
  /-- ascending fire time -/
  firings : List PendingFiring
  /-- G1 to G6: none when deasserted, the pulse end when asserted -/
  outputs : Vector (Option Micros) 6
  deriving DecidableEq, Repr

/-! ### Protection inputs, events and the Fault Record (R170 to R183) -/

structure ProtectionInput where
  edge : ProtectionEdge
  action : ProtectionAction
  /-- last sampled level, true is high -/
  level : Bool
  /-- the sample of the present microsecond has been taken (R170, assumption 24) -/
  sampled : Bool
  deriving DecidableEq, Repr

/-- The 24 event kinds of R173, in the order of their numbers. -/
inductive EventKind where
  | onset | block | recovered | escalation | blockTimeout | syncLoss | phaseJump | phaseShift
  | freqOut | trip | lowLoad | peerJoined | peerSilent | peerLost | peerRestart | peerLeft
  | frameError | seqGap | txDropped | collision | capabilityLimit | dcVoltageLimit
  | protectionReport | demandClamped
  deriving DecidableEq, Repr

/-- Counters, overflow markers and classes stand at the kind's number less one (R173). -/
structure EventUnit where
  counters : Vector Nat 24
  overflow : Vector Bool 24
  urgent : Vector Bool 24
  attnU : Bool
  attnR : Bool
  deriving DecidableEq, Repr

/-- Trip causes (R26, R180). -/
inductive TripCause where
  | protection (n : Fin 4) | dcOvercurrent | overTemperature | duplicateStation
  deriving DecidableEq, Repr

/-- The captured fields of the Fault Record (R180). -/
structure TripPicture where
  cause : TripCause
  stateBefore : StationState
  setpoint : Nat
  current : Nat
  voltage : Nat
  lastAngle : Nat
  sink : Option Int
  contextDepth : Nat
  tracker : TrackerState
  classifier : ClassifierState
  freshPeers : Nat
  deriving DecidableEq, Repr

/-- The record is valid when `picture` is present (R180, R183). -/
structure FaultRecord where
  picture : Option TripPicture
  laterTrips : Nat
  deriving DecidableEq, Repr

/-! ### The Supervisor Port (R184 to R196) -/

/-- A taken request with its parameters (R184, R196). -/
inductive Request where
  | loadConfig (parameters : List Byte)
  | setDemand (value : Nat)
  | readStatus
  | start
  | stop
  | standby
  | clearFault
  | readPeer (n : Nat)
  | forgetPeer (n : Nat)
  | readEvents
  | ackEvents (pairs : List (Nat × Nat))
  | readFault
  deriving DecidableEq, Repr

/-- The response codes of R189. -/
inductive ResponseCode where
  | done | absent | noRecord | notReady | refusedState | refusedRange | refusedCondition
  | refusedUnconfigured | unknownRequest
  deriving DecidableEq, Repr

structure Response where
  code : ResponseCode
  data : List Byte
  deriving DecidableEq, Repr

structure SupervisorPort where
  transfer : Option (List Byte)
  request : Option Request
  response : Option Response
  config : Option Configuration
  /-- the bits SDO carries in the transfer in progress, in their order on SCK, followed by bytes of 0 (R185, R187) -/
  sdo : List Bool
  /-- the SRST line is asserted (R195) -/
  srstAsserted : Bool
  deriving DecidableEq, Repr

/-! ### The whole part -/

/-- Everything the part holds, and the queue of commands that are waiting. -/
structure State where
  /-- commands waiting, first in, first out -/
  pending : List Instr
  /-- the microsecond count (R29) -/
  time : Micros
  station : Station
  tracker : Tracker
  sampler : Sampler
  classifier : Classifier
  line : ShareLine
  filter : FrameFilter
  /-- ascending station number -/
  peers : List Peer
  allocator : Allocator
  regulator : Regulator
  gates : Gates
  protection : Vector ProtectionInput 4
  events : EventUnit
  fault : FaultRecord
  port : SupervisorPort
  deriving DecidableEq, Repr

/-- How far the generator is with a tracked boundary (R161, R167): it has not taken it, it has taken it and
latches the angle the regulator produces there, or a release since has set the entry angle, which stands. -/
inductive BoundaryStage where
  | awaited | taken | released
  deriving DecidableEq, Repr

/-- A boundary on its way through the neighbours: the part so far, the angle the regulator has produced at it
and not yet handed on, and how far the generator is with it (R161). -/
structure Delivery where
  state : State
  angle : Option Nat
  stage : BoundaryStage
  deriving DecidableEq, Repr

/-- What a figure set hands to the neighbours beyond the figures themselves (R56 to R58, R13): the setpoint
before the capability clamp, the two trip reports, and the tracked boundary it belongs to, if any. -/
structure FigureReport where
  setpointBefore : Nat
  overcurrent : Bool
  overTemperature : Bool
  boundary : Option Boundary
  deriving DecidableEq, Repr

/-- Why a step stops with a fault: never. No rule of the spec stops the part: its own trips and error events are
effects on `State`. The type has no constructor, so no statement can rest on one (safe). -/
inductive Fault where
  deriving DecidableEq, Repr

/-- Why a command is turned away by the model itself. -/
inductive Refusal where
  /-- Raised by an arm of `exec` whose command has no meaning yet; no arm raises it now. Safe: it stops. -/
  | notModelled (mnemonic : String)
  deriving DecidableEq, Repr

/-! ### The state after power-on reset -/

/-- R2. -/
def Station.reset : Station where
  state := .unconfigured
  stack := []
  destination := none
  stoppingOrigin := none
  standbyOrigin := none
  lowLoadRunning := false
  lowLoadMs := 0
  blockedSince := none

/-- R31. The period before LOAD CONFIG is DESIGN CHOICE 0 (assumption 8). -/
def Tracker.reset : Tracker where
  state := .unlocked
  previous := none
  intervals := []
  acquired := 0
  anchor := none
  period := 0
  figure := 0
  next := none
  deadline := none
  lastIndex := none

/-- R44: every figure 0, the temperature absent. -/
def Figures.reset : Figures where
  lineAB := 0
  lineBC := 0
  lineCA := 0
  voltage := 0
  current := 0
  dcVoltage := 0
  sink := none
  capabilityVolt := 0
  capabilityThermal := 0
  capability := 0

/-- R44. -/
def Sampler.reset : Sampler where
  mode := .idle
  sector := none
  windowAB := List.replicate 96 0
  windowBC := List.replicate 96 0
  windowCA := List.replicate 96 0
  currentSum := 0
  voltageSum := 0
  freeTimer := none
  cycle := 0
  sink := none
  figures := Figures.reset
  overcurrent := false
  overTemperature := false
  dcLimit := false

/-- The active set without a kind. -/
def ActiveSet.empty : ActiveSet := ⟨false, false, false, false⟩

/-- R61. -/
def Classifier.reset : Classifier where
  state := .inactive
  active := ActiveSet.empty
  onset := none
  elapsed := none
  confirm := none
  frequencyTimer := none
  outOfBand := 0
  latestFigure := none

/-- R79. -/
def ShareLine.reset : ShareLine where
  view := .inactive
  quietAt := none
  assembly := none
  alertQueue := []
  shareSlot := none
  transmission := none
  nextSequence := 0
  firstFlag := false
  collisions := 0
  highWater := 0
  slotTaken := false

/-- R93. -/
def FrameFilter.reset : FrameFilter where
  station := none
  group := none
  accepted := 0
  checkErrors := 0
  otherGroup := 0
  duplicate := 0
  stale := 0

/-- R131. -/
def Allocator.reset : Allocator where
  demand := 0
  pendingDemand := none
  setpoint := 0
  target := 0
  shortfall := 0
  headroom := 0
  cover := 0
  shortfallSum := 0
  headroomSum := 0
  groupDelivered := 0
  latestC := 0
  latestI := 0
  latestDcLimit := false
  shareTimer := none
  lastUpdate := none
  ms := 0
  msPhase := 0
  steps := none
  capabilityMarker := false
  dcHoldMarker := false

/-- R152. -/
def Regulator.reset : Regulator where
  integrator := 0
  lastAngle := 0
  clampSide := .none

/-- R158. -/
def Gates.reset : Gates where
  mode := .inhibited
  latched := none
  firings := []
  outputs := Vector.replicate 6 none

/-- R170: edge OFF, action REPORT, level low. No sample is taken yet: DESIGN CHOICE, the model's own field
(assumption 22). -/
def ProtectionInput.reset : ProtectionInput where
  edge := .off
  action := .report
  level := false
  sampled := false

/-- R179. -/
def EventUnit.reset : EventUnit where
  counters := Vector.replicate 24 0
  overflow := Vector.replicate 24 false
  urgent := Vector.replicate 24 false
  attnU := false
  attnR := false

/-- R183. -/
def FaultRecord.reset : FaultRecord where
  picture := none
  laterTrips := 0

/-- R186. -/
def SupervisorPort.reset : SupervisorPort where
  transfer := none
  request := none
  response := none
  config := none
  sdo := []
  srstAsserted := false

/-- The part right after power-on reset, with no command waiting. The microsecond count starts at 0:
DESIGN CHOICE (assumption 7). -/
def State.reset : State where
  pending := []
  time := 0
  station := Station.reset
  tracker := Tracker.reset
  sampler := Sampler.reset
  classifier := Classifier.reset
  line := ShareLine.reset
  filter := FrameFilter.reset
  peers := []
  allocator := Allocator.reset
  regulator := Regulator.reset
  gates := Gates.reset
  protection := Vector.replicate 4 ProtectionInput.reset
  events := EventUnit.reset
  fault := FaultRecord.reset
  port := SupervisorPort.reset

end Sys2Proof.Machine
end

