-- ==== Sys2Proof/Machine/Flags.lean ====
section
/-! DEFINITION. The Event Unit's counters, markers, classes and attention lines (R173 to R179), and the
bit maps in which the supervisor port carries one bit per event kind (R191, R194, R196). -/

namespace Sys2Proof.Machine

/-- The number of a kind less one: the place of its counter (R173). -/
def EventKind.index : EventKind → Fin 24
  | .onset => 0
  | .block => 1
  | .recovered => 2
  | .escalation => 3
  | .blockTimeout => 4
  | .syncLoss => 5
  | .phaseJump => 6
  | .phaseShift => 7
  | .freqOut => 8
  | .trip => 9
  | .lowLoad => 10
  | .peerJoined => 11
  | .peerSilent => 12
  | .peerLost => 13
  | .peerRestart => 14
  | .peerLeft => 15
  | .frameError => 16
  | .seqGap => 17
  | .txDropped => 18
  | .collision => 19
  | .capabilityLimit => 20
  | .dcVoltageLimit => 21
  | .protectionReport => 22
  | .demandClamped => 23

/-- A kind is pending while its counter is above 0 (R174). -/
def EventUnit.isPending (e : EventUnit) (i : Fin 24) : Bool := decide (0 < e.counters[i])

/-- Some kind of the class is pending (R175); `urgent` true asks for URGENT. -/
def EventUnit.classPending (e : EventUnit) (urgent : Bool) : Bool :=
  (List.finRange 24).any fun i => (e.urgent[i] == urgent) && e.isPending i

/-- The attention lines follow the counters in the same event (R175). -/
def EventUnit.driveLines (e : EventUnit) : EventUnit :=
  { e with attnU := e.classPending true, attnR := e.classPending false }

/-- One occurrence of a kind (R174). -/
def EventUnit.count (e : EventUnit) (k : EventKind) : EventUnit :=
  if e.counters[k.index] < 255 then
    EventUnit.driveLines { e with counters := e.counters.set k.index (e.counters[k.index] + 1) }
  else
    EventUnit.driveLines { e with overflow := e.overflow.set k.index true }

/-- One acknowledged pair: the count seen is subtracted, and the marker cleared when the counter is left
below 255 (R177). -/
def EventUnit.acknowledgePair (e : EventUnit) (i : Fin 24) (seen : Nat) : EventUnit :=
  { e with
    counters := e.counters.set i (e.counters[i] - seen)
    overflow := if e.counters[i] - seen < 255 then e.overflow.set i false else e.overflow }

/-- Every pair of an acknowledgement, then the lines (R177). A kind number outside 1 to 24 is passed over; a
checked list holds none. -/
def EventUnit.acknowledge (e : EventUnit) (pairs : List (Nat × Nat)) : EventUnit :=
  EventUnit.driveLines (pairs.foldl (fun acc p =>
    if h : 1 ≤ p.1 ∧ p.1 ≤ 24 then acc.acknowledgePair ⟨p.1 - 1, by omega⟩ p.2 else acc) e)

/-- Every counter 0 and every marker clear, the classes kept (R179). -/
def EventUnit.zero (e : EventUnit) : EventUnit :=
  EventUnit.driveLines
    { e with counters := Vector.replicate 24 0, overflow := Vector.replicate 24 false }

/-- The classes of the configuration are taken and no counter changes (R175, R179). -/
def EventUnit.takeClasses (e : EventUnit) (urgent : Vector Bool 24) : EventUnit :=
  EventUnit.driveLines { e with urgent := urgent }

/-- Eight bits as one byte, the first in the least significant bit (R191). -/
def byteOfBits (bits : List Bool) : Byte :=
  bits.foldr (fun b n => n <<< 1 ||| (if b then 1#8 else 0#8)) 0#8

/-- One bit per kind in three bytes, kinds 1 to 8 first, the lowest kind in the least significant bit
(R191). -/
def kindMap (f : Fin 24 → Bool) : List Byte :=
  let bits := (List.finRange 24).map f
  [byteOfBits (bits.take 8), byteOfBits ((bits.drop 8).take 8), byteOfBits (bits.drop 16)]

/-- The pending summary of READ STATUS (R194, R196). -/
def EventUnit.pendingSummary (e : EventUnit) : List Byte := kindMap e.isPending

/-- The overflow markers as READ EVENTS carries them (R196). -/
def EventUnit.overflowMap (e : EventUnit) : List Byte := kindMap fun i => e.overflow[i]

/-- The active set as one byte of READ STATUS: bit 0 SAG, 1 PHASE, 2 FREQUENCY, 3 SYNC (R196). -/
def ActiveSet.toByte (a : ActiveSet) : Byte := byteOfBits [a.sag, a.phase, a.frequency, a.sync]

/-- The first kind of a set in the order SAG, PHASE, FREQUENCY, SYNC (R13). -/
def ActiveSet.firstKind (a : ActiveSet) : DisturbanceKind :=
  if a.sag then .sag else if a.phase then .phase else if a.frequency then .frequency else .sync

/-- The set that holds one kind alone (R65). -/
def ActiveSet.only : DisturbanceKind → ActiveSet
  | .sag => ⟨true, false, false, false⟩
  | .phase => ⟨false, true, false, false⟩
  | .frequency => ⟨false, false, true, false⟩
  | .sync => ⟨false, false, false, true⟩

/-- A kind joins the set (R70). -/
def ActiveSet.join (a : ActiveSet) : DisturbanceKind → ActiveSet
  | .sag => { a with sag := true }
  | .phase => { a with phase := true }
  | .frequency => { a with frequency := true }
  | .sync => { a with sync := true }

end Sys2Proof.Machine
end

