-- ==== Sys2Proof/Machine/Ops.lean ====
section
/-! DEFINITION. The named operations every meaning is written over: the time base and what counts with it,
one setter per block of `State`, event counting, the signed and rounded arithmetic of section 6.2, and the
figures that follow from the configuration alone. -/

namespace Sys2Proof.Machine

/-! ### Time (R29) -/

/-- Instant `a` is at or after instant `b`: their difference modulo the counter range is in its lower half
(R29, assumption 27). -/
def atOrAfter (a b : Micros) : Bool := decide ((a - b).toNat < 2 ^ 31)

/-- A timer started at `start` has run for `us` microseconds at `now` (R20, R62, R84, R125). -/
def hasRun (now start : Micros) (us : Nat) : Bool := decide (us ≤ (now - start).toNat)

/-- The later of two instants (R49, R163). -/
def laterOf (a b : Micros) : Micros := if atOrAfter a b then a else b

/-- An instant moved by a whole number of microseconds. -/
def afterMicros (t : Micros) (us : Nat) : Micros := t + BitVec.ofNat 32 us

/-- The instant named by an option has been reached. -/
def reached (now : Micros) : Option Micros → Bool
  | none => false
  | some t => atOrAfter now t

/-- The timer named by an option has run for `us` microseconds. -/
def expired (now : Micros) (us : Nat) : Option Micros → Bool
  | none => false
  | some t => hasRun now t us

/-! ### Arithmetic (section 6.2) -/

/-- `x` limited below by `lo` and above by `hi`. -/
def clampInt (x lo hi : Int) : Int := min (max x lo) hi

/-- A fraction `n / d` rounded half up (section 6.2, R132). -/
def roundHalfUp (n d : Nat) : Nat := (2 * n + d) / (2 * d)

/-! ### Setters, one per block -/

def State.setPending (s : State) (x : List Instr) : State := { s with pending := x }
def State.setTime (s : State) (x : Micros) : State := { s with time := x }
def State.setStation (s : State) (x : Station) : State := { s with station := x }
def State.setTracker (s : State) (x : Tracker) : State := { s with tracker := x }
def State.setSampler (s : State) (x : Sampler) : State := { s with sampler := x }
def State.setClassifier (s : State) (x : Classifier) : State := { s with classifier := x }
def State.setLine (s : State) (x : ShareLine) : State := { s with line := x }
def State.setFilter (s : State) (x : FrameFilter) : State := { s with filter := x }
def State.setPeers (s : State) (x : List Peer) : State := { s with peers := x }
def State.setAllocator (s : State) (x : Allocator) : State := { s with allocator := x }
def State.setRegulator (s : State) (x : Regulator) : State := { s with regulator := x }
def State.setGates (s : State) (x : Gates) : State := { s with gates := x }
def State.setProtection (s : State) (x : Vector ProtectionInput 4) : State := { s with protection := x }
def State.setEvents (s : State) (x : EventUnit) : State := { s with events := x }
def State.setFault (s : State) (x : FaultRecord) : State := { s with fault := x }
def State.setPort (s : State) (x : SupervisorPort) : State := { s with port := x }

/-- One occurrence of an event kind reaches the Event Unit (R174). -/
def State.count (s : State) (k : EventKind) : State := s.setEvents (s.events.count k)

/-- An effect that needs the configuration: a part without one is inactive and unchanged (R2, R29, R44, R61,
R79, R131, R152). -/
def State.configured (s : State) (f : Configuration → State) : State :=
  match s.port.config with
  | none => s
  | some cfg => f cfg

/-! ### Figures of the configuration -/

/-- The nominal period in microseconds (R30). -/
def nominalPeriod (cfg : Configuration) : Nat := if cfg.nominalHertz = 50 then 20000 else 16667

/-- The nominal sector length (R48). -/
def nominalSector (cfg : Configuration) : Nat := nominalPeriod cfg / 6

/-- The nominal frequency figure F_nom (R64). -/
def nominalFigure (cfg : Configuration) : Nat := if cfg.nominalHertz = 50 then 500 else 600

/-- The frequency figure of a period (R39). -/
def frequencyOf (period : Nat) : Nat := 10000000 / period

/-- A frequency figure is in band (R64). -/
def inBand (cfg : Configuration) (f : Nat) : Bool :=
  decide (f ≤ nominalFigure cfg + cfg.frequencyBand) && decide (nominalFigure cfg ≤ f + cfg.frequencyBand)

/-- The time of the envelope's last point, at which the elapsed count stops (R71). -/
def lastEnvelopeTime (cfg : Configuration) : Nat :=
  match cfg.envelope.getLast? with
  | none => 0
  | some p => p.time

/-- The required figure at an elapsed time: that of the last point whose time is at or below it (R71). -/
def requiredFigure (cfg : Configuration) (elapsed : Nat) : Nat :=
  match (cfg.envelope.filter fun p => decide (p.time ≤ elapsed)).getLast? with
  | none => 0
  | some p => p.figure

/-- One ramp step: the rate times P_sh over 1000, rounded half up, at least 1 (R132). -/
def rampStep (rate sharePeriod : Nat) : Nat := max 1 (roundHalfUp (rate * sharePeriod) 1000)

/-! ### Station states (R1) -/

/-- The code a state carries in frames; OFF and UNCONFIGURED have none, and are given the codes under which
READ STATUS reports them (R1, R196). -/
def StationState.code : StationState → Nat
  | .unconfigured => 0
  | .syncing => 1
  | .starting => 2
  | .run => 3
  | .ride => 4
  | .blocked => 5
  | .restart => 6
  | .stopping => 7
  | .standby => 8
  | .tripped => 9
  | .off => 10

/-- The firing states (R1). -/
def StationState.firing : StationState → Bool
  | .starting | .run | .ride | .restart | .stopping => true
  | .unconfigured | .off | .syncing | .blocked | .standby | .tripped => false

/-- The states that send SHARE frames: every configured state other than OFF (R7). -/
def StationState.sending : StationState → Bool
  | .unconfigured | .off => false
  | .syncing | .starting | .run | .ride | .blocked | .restart | .stopping | .standby | .tripped => true

/-! ### What counts with the time base -/

/-- A millisecond count and the microseconds since it last rose, `us` microseconds later. -/
def advanceMillis (count phase us : Nat) : Nat × Nat :=
  (count + (phase + us) / 1000, (phase + us) % 1000)

/-- The age of an entry rises at each millisecond from the acceptance and stays at 65,535 (R119). -/
def Peer.elapse (p : Peer) (us : Nat) : Peer :=
  { p with
    age := min 65535 (advanceMillis p.age p.agePhase us).1
    agePhase := (advanceMillis p.age p.agePhase us).2 }

/-- The elapsed count rises at each 1000 microseconds after t0 and stops at the last point's time (R71). -/
def Classifier.elapse (c : Classifier) (cfg : Configuration) (now : Micros) (us : Nat) : Classifier :=
  match c.onset, c.elapsed with
  | some t0, some d =>
    let x := (now - t0).toNat
    { c with elapsed := some (if d < lastEnvelopeTime cfg
        then min (lastEnvelopeTime cfg) (d + ((x + us) / 1000 - x / 1000)) else d) }
  | _, _ => c

/-- The millisecond count of the allocator (R132). -/
def Allocator.elapse (a : Allocator) (us : Nat) : Allocator :=
  { a with
    ms := a.ms + BitVec.ofNat 32 ((a.msPhase + us) / 1000)
    msPhase := (a.msPhase + us) % 1000 }

/-- A slot that began at an instant is over with it (R81). -/
def ShareLine.elapse (l : ShareLine) : ShareLine := { l with slotTaken := false }

/-- With the next microsecond the input's next sample is due (R170). -/
def ProtectionInput.elapse (p : ProtectionInput) : ProtectionInput := { p with sampled := false }

/-- What passes from LOAD CONFIG on, whatever the station state: the millisecond counts and the slot (R71, R81, R119,
R132). -/
def State.elapseConfigured (s : State) (us : Nat) : State :=
  s.configured fun cfg =>
    (((s.setClassifier (s.classifier.elapse cfg s.time us)).setPeers
      (s.peers.map fun p => p.elapse us)).setAllocator (s.allocator.elapse us)).setLine
      s.line.elapse

/-- `us` microseconds pass. The count and the samples of the protection inputs run in every state (R29, R170). -/
def State.elapse (s : State) (us : Nat) : State :=
  ((s.elapseConfigured us).setProtection (s.protection.map ProtectionInput.elapse)).setTime (afterMicros s.time us)

end Sys2Proof.Machine
end

