-- ==== Sys2Proof/Machine/Operands.lean ====
section
/-! DEFINITION. Operand forms: bytes and bits on the two serial sides, the fields of a LOAD CONFIG and their
checks (R190, R191), the forms of the other requests (R184, R196), and converter results (R47, R51). -/

namespace Sys2Proof.Machine

/-! ### Multi-byte fields, most significant byte first (section 6.5) -/

/-- The two bytes of a field. -/
def be16 (n : Nat) : List Byte := [BitVec.ofNat 8 (n / 256), BitVec.ofNat 8 n]

/-- The four bytes of a field. -/
def be32 (n : Nat) : List Byte := be16 (n / 65536) ++ be16 n

/-- The two bytes of a signed field, two's complement (R196). -/
def be16Signed (x : Int) : List Byte := be16 (BitVec.ofInt 16 x).toNat

/-- The number that bytes spell, most significant first. -/
def unsignedBE (bytes : List Byte) : Nat := bytes.foldl (fun n b => n * 256 + b.toNat) 0

/-! ### Bits on SDI and SDO (R185, R187) -/

/-- The complete bytes of a run of bits, most significant bit first; bits of an unfinished last byte are
discarded (R187). -/
def bytesOfBits : List Bool → List Byte
  | b7 :: b6 :: b5 :: b4 :: b3 :: b2 :: b1 :: b0 :: rest =>
    (BitVec.ofBoolListBE [b7, b6, b5, b4, b3, b2, b1, b0] : Byte) :: bytesOfBits rest
  | _ => []

/-- The bits of a byte as they cross SDI or SDO, most significant bit first (R185). -/
def bitsOfByte (b : Byte) : List Bool :=
  [b.getLsbD 7, b.getLsbD 6, b.getLsbD 5, b.getLsbD 4, b.getLsbD 3, b.getLsbD 2, b.getLsbD 1, b.getLsbD 0]

/-- The bits of a message, byte after byte (R185). -/
def bitsOfBytes (bytes : List Byte) : List Bool := bytes.flatMap bitsOfByte

/-! ### Characters of the share line (R78) -/

/-- The character that carries a byte: start bit dominant, data bits from the least significant upward, stop
bit recessive (R78). -/
def characterOf (b : Byte) : Character := 1#1 ++ b ++ 0#1

/-- The eight data bits the receiver keeps (R78). -/
def characterData (c : Character) : Byte := c.extractLsb' 1 8

/-- A stop bit sampled dominant is a character error (R78). -/
def characterError (c : Character) : Bool := !c.getLsbD 9

/-- Where two stations drive at once the line is dominant whenever either sends dominant (R78). -/
def lineOf (a b : Character) : Character := a &&& b

/-! ### Converter results -/

/-- A line sample as a signed count; -2048 is taken as -2047 (R47). -/
def lineCount (c : Conversion) : Int := max (-2047) c.toInt

/-- A temperature conversion, limited to -40 and 200 (R51). -/
def sinkDegrees (x : Int) : Int := clampInt x (-40) 200

/-! ### The 43 fields of LOAD CONFIG (R190) -/

/-- The bytes of each field, in the order of the table of R190: 115 in all. -/
def fieldWidths : List Nat :=
  [1, 1, 2, 2, 2, 2, 1, 2, 1, 2, 2, 2, 2, 2, 1, 2, 4, 2, 2, 2, 2, 1, 1, 1, 2, 2, 2] ++
  [33, 2, 1, 2, 2, 2, 2, 2, 2, 2, 4, 2, 2, 2, 4, 3]

/-- The bytes of field `i`, counted from 1. -/
def fieldBytes (p : List Byte) (i : Nat) : List Byte :=
  (p.drop ((fieldWidths.take (i - 1)).sum)).take (fieldWidths.getD (i - 1) 0)

/-- Field `i` as an unsigned number. -/
def fieldValue (p : List Byte) (i : Nat) : Nat := unsignedBE (fieldBytes p i)

/-- Field `i` as a two's-complement number of two bytes. -/
def fieldSigned (p : List Byte) (i : Nat) : Int := (BitVec.ofNat 16 (fieldValue p i)).toInt

/-- Points of four bytes each: a time and a figure (R191). -/
def envelopePoints : List Byte → List EnvelopePoint
  | t1 :: t0 :: v1 :: v0 :: rest => ⟨unsignedBE [t1, t0], unsignedBE [v1, v0]⟩ :: envelopePoints rest
  | _ => []

/-- The number of points a LOAD CONFIG gives (R191). -/
def envelopeCount (p : List Byte) : Nat := unsignedBE ((fieldBytes p 28).take 1)

/-- Points 1 to n; the bytes of points n + 1 to 8 are ignored (R191). -/
def envelopeOf (p : List Byte) : List EnvelopePoint :=
  (envelopePoints ((fieldBytes p 28).drop 1)).take (envelopeCount p)

/-- The conditions of R191 on the points, with V_sag. -/
def envelopeInRange (points : List EnvelopePoint) (voltSag : Nat) : Bool :=
  decide (points.Pairwise fun a b => a.time < b.time ∧ a.figure ≤ b.figure) &&
  (match points.head? with
    | none => false
    | some p => decide (p.time = 0)) &&
  points.all (fun p => decide (p.time ≤ 10000)) &&
  (match points.getLast? with
    | none => false
    | some p => decide (p.figure ≤ voltSag))

/-- Edge codes of R191; a code above 3 does not pass the check. -/
def edgeOfCode (n : Nat) : ProtectionEdge :=
  if n = 1 then .rising else if n = 2 then .falling else if n = 3 then .both else .off

/-- Action codes of R191; a code above 2 does not pass the check. -/
def actionOfCode (n : Nat) : ProtectionAction :=
  if n = 0 then .trip else if n = 1 then .standby else .report

/-- Edge and action of input `i` (R191). -/
def inputOf (p : List Byte) (i : Fin 4) : ProtectionEdge × ProtectionAction :=
  let b := ((fieldBytes p 42).getD i.val 0#8).toNat
  (edgeOfCode (b / 16), actionOfCode (b % 16))

/-- No input carries another edge or action code (R191). -/
def inputsInRange (p : List Byte) : Bool :=
  (fieldBytes p 42).all fun b => decide (b.toNat / 16 ≤ 3) && decide (b.toNat % 16 ≤ 2)

/-- The class of the kind with number `i` + 1: kinds 1 to 8 in the first byte, the lowest in the least
significant bit (R191). -/
def urgentOf (p : List Byte) (i : Fin 24) : Bool :=
  ((fieldBytes p 43).getD (i.val / 8) 0#8).getLsbD (i.val % 8)

/-- The field values of a message of 115 parameter bytes. -/
def configurationOf (p : List Byte) : Configuration where
  station := fieldValue p 1
  group := fieldValue p 2
  rating := fieldValue p 3
  currentFullScale := fieldValue p 4
  peakCount := fieldValue p 5
  voltageFullScale := fieldValue p 6
  nominalHertz := fieldValue p 7
  phaseShift := fieldSigned p 8
  sharePeriod := fieldValue p 9
  tSilent := fieldValue p 10
  tLost := fieldValue p 11
  rampUp := fieldValue p 12
  rampDown := fieldValue p 13
  rampRestart := fieldValue p 14
  coverEnabled := decide (fieldValue p 15 = 1)
  coverLimit := fieldValue p 16
  plantMinimum := fieldValue p 17
  tLow := fieldValue p 18
  currentZero := fieldValue p 19
  voltFloor := fieldValue p 20
  voltFull := fieldValue p 21
  temperatureFitted := decide (fieldValue p 22 = 1)
  tDerate := fieldValue p 23
  tMax := fieldValue p 24
  voltSag := fieldValue p 25
  voltRecovered := fieldValue p 26
  tRecovery := fieldValue p 27
  envelope := envelopeOf p
  jumpThreshold := fieldValue p 29
  frequencyBand := fieldValue p 30
  tFrequencyMax := fieldValue p 31
  tBlockMax := fieldValue p 32
  alphaMin := fieldValue p 33
  alphaMax := fieldValue p 34
  alphaBias := fieldValue p 35
  gainP := fieldValue p 36
  gainI := fieldValue p 37
  integratorLimit := fieldValue p 38
  pulseWidth := fieldValue p 39
  overcurrent := fieldValue p 40
  voltageMax := fieldValue p 41
  inputs := Vector.ofFn (inputOf p)
  urgent := Vector.ofFn (urgentOf p)

/-- `x` lies within the limits, both included. -/
def within (x lo hi : Nat) : Bool := decide (lo ≤ x) && decide (x ≤ hi)

/-- The check of each field in the order of the table of R190, with the field's index. -/
def configurationChecks (p : List Byte) : List (Nat × Bool) :=
  let v := fieldValue p
  [(1, within (v 1) 0 15),
   (2, within (v 2) 0 3),
   (3, within (v 3) 1000 32000),
   (4, within (v 4) (v 3) 65000),
   (5, within (v 5) 1000 2047),
   (6, within (v 6) 100 2000),
   (7, decide (v 7 = 50) || decide (v 7 = 60)),
   (8, decide (fieldSigned p 8 ∈ [-300, -150, 0, 150, 300])),
   (9, within (v 9) 2 20),
   (10, within (v 10) 5 500),
   (11, within (v 11) (v 10 + 1) 5000),
   (12, within (v 12) 10 50000),
   (13, within (v 13) 10 50000),
   (14, within (v 14) (v 12) 50000),
   (15, within (v 15) 0 1),
   (16, within (v 16) 0 (v 3)),
   (17, within (v 17) 0 512000),
   (18, within (v 18) 500 60000),
   (19, within (v 19) 0 1000),
   (20, within (v 20) 0 900)] ++
  [(21, within (v 21) (v 20 + 50) 1200),
   (22, within (v 22) 0 1),
   (23, within (v 23) 40 120),
   (24, within (v 24) (v 23 + 5) 150),
   (25, within (v 25) 500 950),
   (26, within (v 26) (v 25) 980),
   (27, within (v 27) 20 5000),
   (28, within (envelopeCount p) 1 8 && envelopeInRange (envelopeOf p) (v 25)),
   (29, within (v 29) 50 300),
   (30, within (v 30) 5 50),
   (31, within (v 31) 100 60000),
   (32, within (v 32) 100 30000),
   (33, within (v 33) 50 600),
   (34, within (v 34) (v 33 + 100) 1650),
   (35, within (v 35) (v 33) (v 34)),
   (36, within (v 36) 0 4095),
   (37, within (v 37) 0 4095),
   (38, within (v 38) 0 8000000),
   (39, within (v 39) 50 1000),
   (40, within (v 40) (v 3 + 1) 65000),
   (41, within (v 41) 50 2000),
   (42, inputsInRange p),
   (43, true)]

/-- The index of the first field that lies outside its range, none when all 43 pass (R190). -/
def configurationFault (p : List Byte) : Option Nat :=
  ((configurationChecks p).find? fun c => !c.2).map Prod.fst

/-- The ranges of the table of R190 as a predicate on field values. -/
def configurationInRange (cfg : Configuration) : Bool :=
  within cfg.station 0 15 && within cfg.group 0 3 && within cfg.rating 1000 32000 &&
  within cfg.currentFullScale cfg.rating 65000 && within cfg.peakCount 1000 2047 &&
  within cfg.voltageFullScale 100 2000 &&
  (decide (cfg.nominalHertz = 50) || decide (cfg.nominalHertz = 60)) &&
  decide (cfg.phaseShift ∈ [-300, -150, 0, 150, 300]) &&
  within cfg.sharePeriod 2 20 && within cfg.tSilent 5 500 &&
  within cfg.tLost (cfg.tSilent + 1) 5000 && within cfg.rampUp 10 50000 &&
  within cfg.rampDown 10 50000 && within cfg.rampRestart cfg.rampUp 50000 &&
  within cfg.coverLimit 0 cfg.rating && within cfg.plantMinimum 0 512000 &&
  within cfg.tLow 500 60000 && within cfg.currentZero 0 1000 && within cfg.voltFloor 0 900 &&
  within cfg.voltFull (cfg.voltFloor + 50) 1200 && within cfg.tDerate 40 120 &&
  within cfg.tMax (cfg.tDerate + 5) 150 && within cfg.voltSag 500 950 &&
  within cfg.voltRecovered cfg.voltSag 980 && within cfg.tRecovery 20 5000 &&
  within cfg.envelope.length 1 8 && envelopeInRange cfg.envelope cfg.voltSag &&
  within cfg.jumpThreshold 50 300 && within cfg.frequencyBand 5 50 &&
  within cfg.tFrequencyMax 100 60000 && within cfg.tBlockMax 100 30000 &&
  within cfg.alphaMin 50 600 && within cfg.alphaMax (cfg.alphaMin + 100) 1650 &&
  within cfg.alphaBias cfg.alphaMin cfg.alphaMax && within cfg.gainP 0 4095 &&
  within cfg.gainI 0 4095 && within cfg.integratorLimit 0 8000000 &&
  within cfg.pulseWidth 50 1000 && within cfg.overcurrent (cfg.rating + 1) 65000 &&
  within cfg.voltageMax 50 2000

/-! ### The forms of the requests (R184, R196) -/

/-- The kind is one of the table of R184 other than kind 0. -/
def knownKind (kind : Nat) : Bool := within kind 1 12

/-- The parameter lengths the table of R184 allows. -/
def allowedLength (kind length : Nat) : Bool :=
  if kind = 1 then decide (length = 115)
  else if kind = 2 then decide (length = 2)
  else if kind = 8 ∨ kind = 9 then decide (length = 1)
  else if kind = 11 then decide (length ≤ 48) && decide (length % 2 = 0)
  else decide (length = 0)

/-- Pairs of a kind byte and a count-seen byte (R177, R196). -/
def pairsOf : List Byte → List (Nat × Nat)
  | k :: n :: rest => (k.toNat, n.toNat) :: pairsOf rest
  | _ => []

/-- The request of a known kind with its parameters (R184, R196). -/
def requestOf (kind : Nat) (parameters : List Byte) : Option Request :=
  if kind = 1 then some (.loadConfig parameters)
  else if kind = 2 then some (.setDemand (unsignedBE parameters))
  else if kind = 3 then some .readStatus
  else if kind = 4 then some .start
  else if kind = 5 then some .stop
  else if kind = 6 then some .standby
  else if kind = 7 then some .clearFault
  else if kind = 8 then some (.readPeer (unsignedBE parameters))
  else if kind = 9 then some (.forgetPeer (unsignedBE parameters))
  else if kind = 10 then some .readEvents
  else if kind = 11 then some (.ackEvents (pairsOf parameters))
  else if kind = 12 then some .readFault
  else none

/-! ### Responses (R189) -/

/-- The response codes of R189. -/
def ResponseCode.number : ResponseCode → Nat
  | .done => 1
  | .absent => 2
  | .noRecord => 3
  | .notReady => 4
  | .refusedState => 8
  | .refusedRange => 9
  | .refusedCondition => 10
  | .refusedUnconfigured => 11
  | .unknownRequest => 12

/-- A response as it crosses SDO: code, data length, data (R189). -/
def Response.bytes (r : Response) : List Byte :=
  BitVec.ofNat 8 r.code.number :: BitVec.ofNat 8 r.data.length :: r.data

/-- NOT_READY with its data byte (R187, R189). -/
def notReady (inProgress : Bool) : Response := ⟨.notReady, [if inProgress then 1#8 else 0#8]⟩

/-- REFUSED_RANGE with the field index (R188, R189). -/
def refusedRange (index : Nat) : Response := ⟨.refusedRange, [BitVec.ofNat 8 index]⟩

/-- A response without data (R189). -/
def plainResponse (code : ResponseCode) : Response := ⟨code, []⟩

/-- A response is formed: it replaces any response still held, and no request is in progress any more
(R188). -/
def State.answer (s : State) (r : Response) : State :=
  s.setPort { s.port with response := some r, request := none }

end Sys2Proof.Machine
end

