-- ==== Sys2Proof/Machine/Gates.lean ====
section
/-! DEFINITION. The Angle Regulator and the Gate Pulse Generator (R151 to R169), with the meanings of FIRING
and PULSE_END. -/

namespace Sys2Proof.Machine

/-! ### The regulator -/

/-- Where an angle lies against its limits (R151). -/
def clampSideOf (cfg : Configuration) (angle : Nat) : ClampSide :=
  if angle = cfg.alphaMin then .low else if angle = cfg.alphaMax then .high else .none

/-- The output angle of a control value: alpha_bias less it, within alpha_min and alpha_max (R153, R156). -/
def angleOf (cfg : Configuration) (u : Int) : Nat :=
  (clampInt (cfg.alphaBias - u) cfg.alphaMin cfg.alphaMax).toNat

/-- The rest angle of an integrator (R153). -/
def restAngle (cfg : Configuration) (integrator : Int) : Nat := angleOf cfg (integrator.tdiv 256)

/-- A new last output angle, with the clamp side decided from it (R151). -/
def Regulator.turnTo (r : Regulator) (cfg : Configuration) (angle : Nat) : Regulator :=
  { r with lastAngle := angle, clampSide := clampSideOf cfg angle }

/-- The integrator commands of R153 on entry into a state. With no record on the stack an entry into RESTART,
which no run makes, keeps the regulator (assumption 18). -/
def Regulator.enter (r : Regulator) (cfg : Configuration) (stack : List ContextRecord) :
    StationState → Regulator
  | .off | .starting => Regulator.turnTo { r with integrator := 0 } cfg cfg.alphaMax
  | .restart =>
    match stack.getLast? with
    | none => r
    | some record =>
      Regulator.turnTo { r with integrator := record.integrator } cfg (restAngle cfg record.integrator)
  | .unconfigured | .syncing | .run | .ride | .blocked | .stopping | .standby | .tripped => r

/-- The current error of an update (R155). -/
def currentError (setpoint current : Nat) : Int := clampInt (setpoint - current) (-32767) 32767

/-- The integrator after an update: kept where the output sits at a limit and the error would drive it
further past (R155). -/
def integrate (cfg : Configuration) (side : ClampSide) (integrator error : Int) : Int :=
  if (side = .low ∧ 0 < error) ∨ (side = .high ∧ error < 0) then integrator
  else clampInt (integrator + cfg.gainI * error) (-cfg.integratorLimit) cfg.integratorLimit

/-- The control value of an update (R156). -/
def controlValue (cfg : Configuration) (integrator error : Int) : Int :=
  (cfg.gainP * error + integrator).tdiv 256

/-- One update of the regulator (R154 to R156). -/
def Regulator.update (r : Regulator) (cfg : Configuration) (setpoint current : Nat) : Regulator :=
  let error := currentError setpoint current
  let integrator := integrate cfg r.clampSide r.integrator error
  Regulator.turnTo { r with integrator := integrator } cfg (angleOf cfg (controlValue cfg integrator error))

/-! ### The generator -/

/-- A block: the mode is INHIBITED, the list empty, every output deasserted, the latched angle kept (R165). -/
def Gates.block (g : Gates) : Gates :=
  { g with mode := .inhibited, firings := [], outputs := Vector.replicate 6 none }

/-- A release: the mode is ENABLED and the entry angle latched, list and pulses kept (R159). -/
def Gates.release (g : Gates) (entryAngle : Nat) : Gates :=
  { g with mode := .enabled, latched := some entryAngle }

/-- The gate commands of R4 and R159 on entry into a state. -/
def Gates.enter (g : Gates) (entryAngle : Nat) : StationState → Gates
  | .off | .syncing | .blocked | .standby | .tripped => g.block
  | .starting | .restart => g.release entryAngle
  | .unconfigured | .run | .ride | .stopping => g

/-- A pulse that starts on an output asserts it or moves its end to the later of the two (R163). -/
def extendPulse (output : Option Micros) (pulseEnd : Micros) : Option Micros :=
  match output with
  | none => some pulseEnd
  | some e => some (laterOf e pulseEnd)

/-- The double pulse of thyristor `n` + 1 on its output and on the one before it in firing order (R163). -/
def Gates.doublePulse (g : Gates) (cfg : Configuration) (now : Micros) (n : Fin 6) : Gates :=
  let pulseEnd := afterMicros now cfg.pulseWidth
  let previous : Fin 6 := n - 1
  let own := g.outputs.set n (extendPulse g.outputs[n] pulseEnd)
  { g with outputs := own.set previous (extendPulse own[previous] pulseEnd) }

/-- An entry is placed by ascending fire time, after any entry with an equal fire time (R162). -/
def insertFiring (f : PendingFiring) : List PendingFiring → List PendingFiring
  | [] => [f]
  | g :: rest =>
    if atOrAfter f.fireTime g.fireTime then g :: insertFiring f rest else f :: g :: rest

/-- The entry with the earliest scheduled-at time (R162). Of entries with one scheduled-at time it is the first in the
list, that is the one with the earliest fire time: DESIGN CHOICE, the spec is silent (assumption 14). -/
def earliestScheduled : List PendingFiring → Option PendingFiring
  | [] => none
  | f :: rest =>
    match earliestScheduled rest with
    | none => some f
    | some g => if atOrAfter g.scheduledAt f.scheduledAt then some f else some g

/-- A full list gives its earliest scheduled entry at once, at the boundary's time (R162). -/
def Gates.advanceOldest (g : Gates) (cfg : Configuration) (at_ : Micros) : Gates :=
  if g.firings.length < 3 then g
  else match earliestScheduled g.firings with
    | none => g
    | some f => Gates.doublePulse { g with firings := g.firings.erase f } cfg at_ f.thyristor

/-- The delay of a firing after its boundary (R162). -/
def firingDelay (angle period : Nat) : Nat := angle * period / 3600

/-- Part 1 of a tracked boundary: with the mode ENABLED one entry is added with the latched angle (R161,
R162). -/
def Gates.schedule (g : Gates) (cfg : Configuration) (period : Nat) (b : Boundary) : Gates :=
  match g.mode, g.latched with
  | .enabled, some angle =>
    let room := g.advanceOldest cfg b.time
    { room with
      firings := insertFiring
        { thyristor := Fin.ofNat 6 b.sector
          fireTime := afterMicros b.time (firingDelay angle period)
          scheduledAt := b.time } room.firings }
  | _, _ => g

/-- Part 2 of a tracked boundary: the angle produced there, if any, becomes the latched angle (R161). -/
def Gates.latch (g : Gates) (produced : Option Nat) : Gates :=
  match produced with
  | none => g
  | some angle => { g with latched := some angle }

/-- The fire time of the first entry is reached (R163). -/
def State.firingDue (s : State) : Bool :=
  reached s.time (s.gates.firings.head?.map PendingFiring.fireTime)

/-- The first entry is removed and its double pulse starts (R163). -/
def State.fire (s : State) (cfg : Configuration) : State :=
  match s.gates.firings with
  | [] => s
  | f :: rest => s.setGates (Gates.doublePulse { s.gates with firings := rest } cfg s.time f.thyristor)

/-- FIRING (R163). -/
def execFiring (s : State) : Host.Outcome State Fault Refusal :=
  .next (s.configured fun cfg => if s.firingDue then s.fire cfg else s)

/-- Output `g` has reached its pulse end (R164). -/
def State.pulseEndDue (s : State) (g : Fin 6) : Bool := reached s.time s.gates.outputs[g]

/-- PULSE_END: the output is deasserted (R164). -/
def execPulseEnd (g : Fin 6) (s : State) : Host.Outcome State Fault Refusal :=
  .next (if s.pulseEndDue g then s.setGates { s.gates with outputs := s.gates.outputs.set g none } else s)

end Sys2Proof.Machine
end

