-- ==== Sys2Proof/Machine/Frames.lean ====
section
/-! DEFINITION. Frame layouts and the check (R95 to R101): the bytes of a frame, and a frame read from
received bytes, the framing stage of the filter (R103). -/

namespace Sys2Proof.Machine

/-- One bit of the check: generator x^16 + x^12 + x^5 + 1 (R100). -/
def crcBit (crc : Half) : Half := if crc.msb then (crc <<< 1) ^^^ 0x1021#16 else crc <<< 1

/-- One byte of the check, from its most significant bit to its least significant (R100). -/
def crcByte (crc : Half) (b : Byte) : Half :=
  crcBit (crcBit (crcBit (crcBit (crcBit (crcBit (crcBit (crcBit (crc ^^^ (b ++ 0#8)))))))))

/-- The check over header and body: initial value FFFF hex, no reversal and no inversion (R100). -/
def crc16 (bytes : List Byte) : Half := bytes.foldl crcByte 0xFFFF#16

/-- The kind in the upper four bits of byte 0 (R95). -/
def Body.kindCode : Body → Nat
  | .share _ => 1
  | .alert _ => 2
  | .leave => 3

/-- The alert kind codes of R95. -/
def AlertKind.code : AlertKind → Nat
  | .onset => 1
  | .block => 2
  | .recovered => 3
  | .trip => 4
  | .standby => 5

/-- The bytes of a body (R95). -/
def Body.bytes : Body → List Byte
  | .share b =>
    [BitVec.ofNat 8 b.stateCode, BitVec.ofNat 8 b.sharePeriod] ++ be16 b.voltage ++ be16 b.demand ++
      be16 b.delivered ++ be16 b.capability ++ be16 b.shortfall ++ be16 b.headroom ++ be16 b.cover
  | .alert b =>
    [BitVec.ofNat 8 b.kind.code, BitVec.ofNat 8 b.stateCode] ++ be16 b.voltage ++ be16 b.capability ++
      be16 b.shortfall
  | .leave => []

/-- The body length of a kind: SHARE 16, ALERT 8, LEAVE 0 (R95). -/
def bodyLengthOf (kind : Nat) : Option Nat :=
  if kind = 1 then some 16 else if kind = 2 then some 8 else if kind = 3 then some 0 else none

/-- Header and body (R95, R96): kind and number, group and flag with bits 4 to 0 at 0, sequence, length. -/
def Frame.payload (f : Frame) : List Byte :=
  [BitVec.ofNat 8 (f.body.kindCode * 16 + f.station),
   BitVec.ofNat 8 (f.group * 64 + (if f.first then 32 else 0)),
   f.sequence,
   BitVec.ofNat 8 f.body.bytes.length] ++ f.body.bytes

/-- The whole frame, its check last and high byte first (R95, R100). -/
def Frame.bytes (f : Frame) : List Byte := f.payload ++ be16 (crc16 f.payload).toNat

/-- The alert kind of a code; 0 and codes above 5 are out of range (R103). -/
def alertKindOf (n : Nat) : Option AlertKind :=
  if n = 1 then some .onset
  else if n = 2 then some .block
  else if n = 3 then some .recovered
  else if n = 4 then some .trip
  else if n = 5 then some .standby
  else none

/-- A body field of one byte. -/
def byteAt (bytes : List Byte) (i : Nat) : Nat := (bytes.getD i 0#8).toNat

/-- A body field of two bytes. -/
def wordAt (bytes : List Byte) (i : Nat) : Nat := byteAt bytes i * 256 + byteAt bytes (i + 1)

/-- The body of a kind read from its bytes, none when a field lies outside its range (R95, R103). -/
def bodyOf (kind : Nat) (b : List Byte) : Option Body :=
  if kind = 1 then
    if within (byteAt b 0) 1 9 && within (byteAt b 1) 2 20 && within (wordAt b 2) 0 1500 then
      some (.share
        { stateCode := byteAt b 0
          sharePeriod := byteAt b 1
          voltage := wordAt b 2
          demand := wordAt b 4
          delivered := wordAt b 6
          capability := wordAt b 8
          shortfall := wordAt b 10
          headroom := wordAt b 12
          cover := wordAt b 14 })
    else none
  else if kind = 2 then
    match alertKindOf (byteAt b 0) with
    | none => none
    | some alertKind =>
      if within (byteAt b 1) 1 9 && within (wordAt b 2) 0 1500 then
        some (.alert
          { kind := alertKind
            stateCode := byteAt b 1
            voltage := wordAt b 2
            capability := wordAt b 4
            shortfall := wordAt b 6 })
      else none
  else if kind = 3 then some .leave
  else none

/-- The framing stage on the bytes of a frame that was not handed over as malformed: unknown kind, wrong
length for the kind, check mismatch and field out of range give none (R103). Bits 4 to 0 of byte 1 are not
looked at (R96). -/
def frameOf (bytes : List Byte) : Option Frame :=
  match bytes with
  | b0 :: b1 :: b2 :: b3 :: rest =>
    let kind := b0.toNat / 16
    if bodyLengthOf kind = some b3.toNat ∧ rest.length = b3.toNat + 2 ∧
        be16 (crc16 (bytes.take (4 + b3.toNat))).toNat = rest.drop b3.toNat then
      (bodyOf kind (rest.take b3.toNat)).map fun body =>
        { station := b0.toNat % 16
          group := b1.toNat / 64
          first := b1.getLsbD 5
          sequence := b2
          body := body }
    else none
  | _ => none

/-- The ranges of the layout table (R95), which every frame the part composes meets (R101). -/
def Body.inRange : Body → Bool
  | .share b =>
    within b.stateCode 1 9 && within b.sharePeriod 2 20 && within b.voltage 0 1500 &&
      within b.demand 0 65535 && within b.delivered 0 65535 && within b.capability 0 65535 &&
      within b.shortfall 0 65535 && within b.headroom 0 65535 && within b.cover 0 65535
  | .alert b =>
    within b.stateCode 1 9 && within b.voltage 0 1500 && within b.capability 0 65535 &&
      within b.shortfall 0 65535
  | .leave => true

/-- A frame whose every field fits its place (R95). -/
def Frame.inRange (f : Frame) : Bool :=
  decide (f.station < 16) && decide (f.group < 4) && f.body.inRange

end Sys2Proof.Machine
end

