-- ==== Sys2Proof/Machine/Station.lean ====
section
/-! DEFINITION. The Station Controller (R1 to R28): what every entry into a state does, the ALERT and LEAVE
frames it queues, trips and the Fault Record's capture, its reactions to the classifier and to protection
actions, and the meanings of START, STOP, STANDBY, CLEAR_FAULT, READ_FAULT, BLOCKED_TIMER_EXPIRY and
LOW_LOAD_TIMER_EXPIRY. -/

namespace Sys2Proof.Machine

/-! ### Frames queued with the Share Line Interface (R6, R7, R8, R83, R85) -/

/-- A frame joins the end of the alert queue with the time; the high-water mark follows (R83, R85). -/
def ShareLine.join (l : ShareLine) (body : Body) (now : Micros) : ShareLine :=
  { l with
    alertQueue := l.alertQueue ++ [⟨body, now⟩]
    highWater := max l.highWater (l.alertQueue.length + 1) }

/-- The controller queues a frame; a full queue drops it and counts TX_DROPPED (R83). -/
def State.queueFrame (s : State) (body : Body) : State :=
  if s.line.alertQueue.length < 4 then s.setLine (s.line.join body s.time) else s.count .txDropped

/-- A queued frame is a LEAVE. -/
def QueuedFrame.isLeave (q : QueuedFrame) : Bool :=
  match q.body with
  | .leave => true
  | .share _ | .alert _ => false

/-- What an entry does on the line: R7 on entry into OFF from a sending state, R8 on departure from OFF.
Neither counts TX_DROPPED. -/
def ShareLine.enter (l : ShareLine) (left entered : StationState) (now : Micros) : ShareLine :=
  if entered = .off then
    if left.sending then ShareLine.join { l with alertQueue := [], shareSlot := none } .leave now else l
  else if left = .off then
    { l with
      alertQueue := l.alertQueue.filter fun q => !q.isLeave
      nextSequence := 0
      firstFlag := true }
  else l

/-! ### Entry into a state (R4, R5, R140, R147) -/

/-- The controller's own part of R4: the timers, the STOPPING destination and origin, the standby origin. -/
def Station.enter (st : Station) (dest : StationState) (now : Micros) : Station :=
  { st with
    state := dest
    destination := if dest = .stopping then st.destination else none
    stoppingOrigin := if dest = .stopping then st.stoppingOrigin else none
    standbyOrigin := if dest = .standby then st.standbyOrigin else none
    lowLoadRunning := decide (dest = .run)
    lowLoadMs := 0
    blockedSince := if dest = .blocked then some now else none }

/-- The setpoint command of R4 and R147. -/
def entrySetpoint (a : Allocator) : StationState → Nat
  | .off | .syncing | .starting | .blocked | .standby | .tripped => 0
  | .restart => min a.latestI a.latestC
  | .unconfigured | .run | .ride | .stopping => a.setpoint

/-- The allocator's part of an entry: the setpoint command, H and c at departure from RUN (R140), and on
entry into OFF the sums, S, T and the last update (R147). -/
def Allocator.enter (a : Allocator) (left entered : StationState) : Allocator :=
  { a with
    setpoint := entrySetpoint a entered
    headroom := if left = .run then 0 else a.headroom
    cover := if left = .run then 0 else a.cover
    target := if entered = .off then 0 else a.target
    shortfall := if entered = .off then 0 else a.shortfall
    shortfallSum := if entered = .off then 0 else a.shortfallSum
    headroomSum := if entered = .off then 0 else a.headroomSum
    groupDelivered := if entered = .off then 0 else a.groupDelivered
    lastUpdate := if entered = .off then none else a.lastUpdate }

/-- Entry into a station state with every command of R4: setpoint, integrator, gates (whose release takes
the regulator's entry angle, R153), timers, and the effects on the line of R7 and R8. -/
def State.enter (s : State) (cfg : Configuration) (dest : StationState) : State :=
  let regulator := s.regulator.enter cfg s.station.stack dest
  ((((s.setStation (s.station.enter dest s.time)).setAllocator
    (s.allocator.enter s.station.state dest)).setRegulator regulator).setGates
    (s.gates.enter regulator.lastAngle dest)).setLine (s.line.enter s.station.state dest s.time)

/-- The context stack is emptied (R13). -/
def State.emptyStack (s : State) : State := s.setStation { s.station with stack := [] }

/-- Entry into STANDBY, which records its origin (R5) and in every case leaves no record on the stack. -/
def State.enterStandby (s : State) (cfg : Configuration) (origin : StandbyOrigin) : State :=
  let entered := (s.enter cfg .standby).emptyStack
  entered.setStation { entered.station with standbyOrigin := some origin }

/-- Entry into STOPPING with its destination and origin (R21, R22, R24); the stack is emptied. -/
def State.enterStopping (s : State) (cfg : Configuration) (destination : Destination)
    (origin : Option StoppingOrigin) : State :=
  let entered := (s.enter cfg .stopping).emptyStack
  entered.setStation
    { entered.station with destination := some destination, stoppingOrigin := origin }

/-! ### ALERT frames (R6, R137) -/

/-- The own-shortfall value of R137 for a state, standby origin, demand, setpoint and capability. -/
def ownShortfall (state : StationState) (origin : Option StandbyOrigin) (demand setpoint capability : Nat) :
    Nat :=
  match state with
  | .run => demand - capability
  | .ride | .blocked | .restart => demand - min setpoint demand
  | .tripped => demand
  | .standby => if origin = some .protection then demand else 0
  | .unconfigured | .off | .syncing | .starting | .stopping => 0

/-- The fields of an ALERT for the state entered, with SP taken as the lesser of itself and the latest C
(R6). -/
def State.alertBody (s : State) (kind : AlertKind) : AlertBody where
  kind := kind
  stateCode := s.station.state.code
  voltage := s.sampler.figures.voltage
  capability := s.sampler.figures.capability
  shortfall := ownShortfall s.station.state s.station.standbyOrigin s.allocator.demand
    (min s.allocator.setpoint s.sampler.figures.capability) s.sampler.figures.capability

/-- An ALERT of the kind is queued (R6). -/
def State.queueAlert (s : State) (kind : AlertKind) : State := s.queueFrame (.alert (s.alertBody kind))

/-! ### Trips and the Fault Record (R26, R180, R181) -/

/-- The number of FRESH entries (R130, R180). -/
def countStatus (peers : List Peer) (status : PeerStatus) : Nat :=
  (peers.filter fun p => decide (p.status = status)).length

/-- The picture of the station as it stands when a trip is taken (R180). -/
def State.tripPicture (s : State) (cause : TripCause) : TripPicture where
  cause := cause
  stateBefore := s.station.state
  setpoint := s.allocator.setpoint
  current := s.sampler.figures.current
  voltage := s.sampler.figures.voltage
  lastAngle := s.regulator.lastAngle
  sink := s.sampler.figures.sink
  contextDepth := s.station.stack.length
  tracker := s.tracker.state
  classifier := s.classifier.state
  freshPeers := countStatus s.peers .fresh

/-- A later trip raises the count, stopping at 255 (R181). -/
def FaultRecord.laterTrip (f : FaultRecord) : FaultRecord := { f with laterTrips := min 255 (f.laterTrips + 1) }

/-- A trip handed to the Fault Record: captured when the record is not valid (R180), else counted (R181). -/
def FaultRecord.take (f : FaultRecord) (picture : TripPicture) : FaultRecord :=
  match f.picture with
  | none => ⟨some picture, 0⟩
  | some _ => f.laterTrip

/-- A trip cause reaches the Station Controller (R26). -/
def State.trip (s : State) (cfg : Configuration) (cause : TripCause) : State :=
  match s.station.state with
  | .unconfigured => s
  | .tripped => s.setFault s.fault.laterTrip
  | .off | .syncing | .starting | .run | .ride | .blocked | .restart | .stopping | .standby =>
    let handed := s.setFault (s.fault.take (s.tripPicture cause))
    (((handed.enter cfg .tripped).emptyStack).queueAlert .trip).count .trip

/-- The protection standby action (R25). -/
def State.protectionStandby (s : State) (cfg : Configuration) : State :=
  match s.station.state with
  | .syncing | .starting | .run | .ride | .blocked | .restart | .stopping =>
    (s.enterStandby cfg .protection).queueAlert .standby
  | .unconfigured | .off | .standby | .tripped => s

/-! ### Tests and reactions (R10 to R19, R23) -/

/-- The start condition (R10). -/
def State.startCondition (s : State) : Bool :=
  decide (s.tracker.state = .locked) && decide (s.classifier.state = .normal)

/-- The start condition tested in SYNCING (R10). -/
def State.testStart (s : State) (cfg : Configuration) : State :=
  if s.startCondition then s.enter cfg .starting else s

/-- The standby origin that a STOPPING origin becomes (R5, R23). -/
def standbyOriginOf : Option StoppingOrigin → StandbyOrigin
  | some .lowLoad => .lowLoad
  | some .request | none => .request

/-- A STOPPING station enters its destination (R23). Without a destination, which no run gives it, nothing
happens (assumption 18). -/
def State.enterDestination (s : State) (cfg : Configuration) : State :=
  match s.station.destination with
  | some .off => s.enter cfg .off
  | some .standby => s.enterStandby cfg (standbyOriginOf s.station.stoppingOrigin)
  | none => s

/-- The end condition of STOPPING: SP is 0 and the latest I_meas is at or below I_zero (R23). -/
def State.stoppingEnded (s : State) (cfg : Configuration) : Bool :=
  decide (s.allocator.setpoint = 0) && decide (s.sampler.figures.current ≤ cfg.currentZero)

/-- The end condition tested in STOPPING (R23). -/
def State.testStopping (s : State) (cfg : Configuration) : State :=
  if s.stoppingEnded cfg then s.enterDestination cfg else s

/-- The tests the controller makes at each sector boundary it is told of (R10, R23). -/
def State.boundaryTests (s : State) (cfg : Configuration) : State :=
  match s.station.state with
  | .syncing => s.testStart cfg
  | .stopping => s.testStopping cfg
  | .unconfigured | .off | .starting | .run | .ride | .blocked | .restart | .standby | .tripped => s

/-- A context record is pushed: the first kind of the active set, the integrator now, and the setpoint at
entry that the caller gives (R13). -/
def State.pushContext (s : State) (setpointAtEntry : Nat) : State :=
  s.setStation { s.station with
    stack := s.station.stack ++
      [⟨s.classifier.active.firstKind, s.regulator.integrator, setpointAtEntry⟩] }

/-- Entry into RIDE with ALERT ONSET after a push (R14, R18). -/
def State.rideOut (s : State) (cfg : Configuration) (setpointAtEntry : Nat) : State :=
  ((s.pushContext setpointAtEntry).enter cfg .ride).queueAlert .onset

/-- Entry into BLOCKED with ALERT BLOCK (R14, R15, R18). -/
def State.enterBlocked (s : State) (cfg : Configuration) : State := (s.enter cfg .blocked).queueAlert .block

/-- Escalation (R19). -/
def State.escalate (s : State) (cfg : Configuration) : State :=
  ((s.enterStandby cfg .escalation).queueAlert .standby).count .escalation

/-- The controller's reaction to a classifier transition (R10, R12, R14 to R16, R18, R19, R23), with the
setpoint a pushed record takes (R13). The station reacts to the state entered, whether onset or not
(section 1.5). -/
def State.reactTo (s : State) (cfg : Configuration) (t : Transition) (setpointAtEntry : Nat) : State :=
  match s.station.state, t.entered with
  | .syncing, _ => s.testStart cfg
  | .starting, .disturbed => s.enter cfg .syncing
  | .starting, .outside => s.enter cfg .syncing
  | .run, .disturbed => s.rideOut cfg setpointAtEntry
  | .run, .outside => (s.pushContext setpointAtEntry).enterBlocked cfg
  | .ride, .outside => s.enterBlocked cfg
  | .ride, .normal => s.enter cfg .restart
  | .blocked, .normal => s.enter cfg .restart
  | .restart, .disturbed =>
    if s.station.stack.length < 2 then s.rideOut cfg setpointAtEntry else s.escalate cfg
  | .restart, .outside =>
    if s.station.stack.length < 2 then (s.pushContext setpointAtEntry).enterBlocked cfg else s.escalate cfg
  | .stopping, .outside => s.enterDestination cfg
  | _, _ => s

/-! ### The end of a share update (R11, R17, R23, R24, R146) -/

/-- The completion threshold of RESTART: the lesser of the live target and the bottom record's SP at entry
(R17). -/
def State.completionThreshold (s : State) : Nat :=
  match s.station.stack.head? with
  | none => s.allocator.target
  | some record => min s.allocator.target record.setpointAtEntry

/-- RESTART is completed (R17). -/
def State.completeRestart (s : State) (cfg : Configuration) : State :=
  (((s.enter cfg .run).emptyStack).queueAlert .recovered).count .recovered

/-- The low-load timer after an update in RUN (R24). -/
def Station.lowLoadAfter (st : Station) (cfg : Configuration) (delivered elapsedMs : Nat) : Station :=
  { st with lowLoadMs := if delivered < cfg.plantMinimum then st.lowLoadMs + elapsedMs else 0 }

/-- The controller's tests at the end of a share update, in the state the update was taken in (R146). -/
def State.endOfUpdate (s : State) (cfg : Configuration) (elapsedMs : Nat) : State :=
  match s.station.state with
  | .starting =>
    if s.allocator.setpoint = s.allocator.target then s.enter cfg .run else s
  | .restart =>
    if s.completionThreshold ≤ s.allocator.setpoint then s.completeRestart cfg else s
  | .stopping => s.testStopping cfg
  | .run => s.setStation (s.station.lowLoadAfter cfg s.allocator.groupDelivered elapsedMs)
  | .unconfigured | .off | .syncing | .ride | .blocked | .standby | .tripped => s

/-! ### Requests taken by the Station Controller and the Fault Record -/

/-- The request in progress is `r` (R188, assumption 6). -/
def State.requested (s : State) (r : Request) : Bool := decide (s.port.request = some r)

/-- START by state (R9, R2). -/
def State.takeStart (s : State) (cfg : Configuration) : State :=
  match s.station.state with
  | .off | .standby => (s.enter cfg .syncing).answer (plainResponse .done)
  | .unconfigured => s.answer (plainResponse .refusedUnconfigured)
  | .syncing | .starting | .run | .ride | .blocked | .restart | .stopping | .tripped =>
    s.answer (plainResponse .refusedState)

/-- A request of an owner other than the port, taken in a part without a configuration, is refused with
REFUSED_UNCONFIGURED (R2, R127, R128, R131, R176, R177, R182). -/
def State.takeConfigured (s : State) (f : Configuration → State) : State :=
  match s.port.config with
  | none => s.answer (plainResponse .refusedUnconfigured)
  | some cfg => f cfg

/-- START (R9). -/
def execStart (s : State) : Host.Outcome State Fault Refusal :=
  .next (if s.requested .start then s.takeConfigured fun cfg => s.takeStart cfg else s)

/-- STOP by state (R21, R2). -/
def State.takeStop (s : State) (cfg : Configuration) : State :=
  match s.station.state with
  | .syncing => (s.enter cfg .off).answer (plainResponse .done)
  | .starting | .run | .ride | .restart => (s.enterStopping cfg .off none).answer (plainResponse .done)
  | .blocked | .standby => ((s.enter cfg .off).emptyStack).answer (plainResponse .done)
  | .stopping =>
    (s.setStation { s.station with destination := some .off, stoppingOrigin := none }).answer
      (plainResponse .done)
  | .off | .tripped => s.answer (plainResponse .refusedState)
  | .unconfigured => s.answer (plainResponse .refusedUnconfigured)

/-- STOP (R21). -/
def execStop (s : State) : Host.Outcome State Fault Refusal :=
  .next (if s.requested .stop then s.takeConfigured fun cfg => s.takeStop cfg else s)

/-- STANDBY by state (R22, R2). -/
def State.takeStandby (s : State) (cfg : Configuration) : State :=
  match s.station.state with
  | .starting | .run | .ride | .restart =>
    (s.enterStopping cfg .standby (some .request)).answer (plainResponse .done)
  | .syncing | .blocked => (s.enterStandby cfg .request).answer (plainResponse .done)
  | .off | .standby | .stopping | .tripped => s.answer (plainResponse .refusedState)
  | .unconfigured => s.answer (plainResponse .refusedUnconfigured)

/-- STANDBY (R22). -/
def execStandby (s : State) : Host.Outcome State Fault Refusal :=
  .next (if s.requested .standby then s.takeConfigured fun cfg => s.takeStandby cfg else s)

/-- The recorded protection input is still at its active level (R27): high for RISING, low for FALLING. -/
def ProtectionInput.stillActive (p : ProtectionInput) : Bool :=
  match p.edge with
  | .rising => p.level
  | .falling => !p.level
  | .off | .both => false

/-- The recorded cause refuses the clear (R27). DESIGN CHOICE where R27 says two things (assumption 33): a matching TRIP
edge of the recorded input, taken just before CLEAR FAULT, leaves that input at its active level. By R27's examination
the clear is refused; by its list, which R172 names, it clears the record. The examination decides here. -/
def State.clearBlocked (s : State) : Bool :=
  match s.fault.picture with
  | none => false
  | some picture =>
    match picture.cause with
    | .protection n => s.protection[n].stillActive
    | .dcOvercurrent | .overTemperature | .duplicateStation => false

/-- CLEAR FAULT by state (R27, R183, R2). Behind a new trip of the recorded input it answers REFUSED_CONDITION, by the
choice of assumption 33. -/
def State.takeClearFault (s : State) (cfg : Configuration) : State :=
  match s.station.state with
  | .tripped =>
    if s.clearBlocked then s.answer (plainResponse .refusedCondition)
    else ((s.setFault FaultRecord.reset).enter cfg .off).answer (plainResponse .done)
  | .unconfigured => s.answer (plainResponse .refusedUnconfigured)
  | .off | .syncing | .starting | .run | .ride | .blocked | .restart | .stopping | .standby =>
    s.answer (plainResponse .refusedState)

/-- CLEAR_FAULT (R27). -/
def execClearFault (s : State) : Host.Outcome State Fault Refusal :=
  .next (if s.requested .clearFault then s.takeConfigured fun cfg => s.takeClearFault cfg else s)

/-! ### The controller's own timers -/

/-- The BLOCKED timer has reached T_block_max (R20). -/
def State.blockedTimerDue (s : State) (cfg : Configuration) : Bool :=
  decide (s.station.state = .blocked) && expired s.time (cfg.tBlockMax * 1000) s.station.blockedSince

/-- Expiry of the BLOCKED timer (R20). -/
def State.blockTimeout (s : State) (cfg : Configuration) : State :=
  ((s.enterStandby cfg .blockTimeout).queueAlert .standby).count .blockTimeout

/-- BLOCKED_TIMER_EXPIRY (R20). -/
def execBlockedTimerExpiry (s : State) : Host.Outcome State Fault Refusal :=
  .next (s.configured fun cfg => if s.blockedTimerDue cfg then s.blockTimeout cfg else s)

/-- The low-load timer has reached T_low (R24). -/
def State.lowLoadDue (s : State) (cfg : Configuration) : Bool :=
  decide (s.station.state = .run) && s.station.lowLoadRunning && decide (cfg.tLow ≤ s.station.lowLoadMs)

/-- Expiry of the low-load timer (R24). -/
def State.lowLoadExpire (s : State) (cfg : Configuration) : State :=
  (s.count .lowLoad).enterStopping cfg .standby (some .lowLoad)

/-- LOW_LOAD_TIMER_EXPIRY (R24). -/
def execLowLoadTimerExpiry (s : State) : Host.Outcome State Fault Refusal :=
  .next (s.configured fun cfg => if s.lowLoadDue cfg then s.lowLoadExpire cfg else s)

end Sys2Proof.Machine
end

