-- ==== Sys2Proof/Machine/Classify.lean ====
section
/-! DEFINITION. The Disturbance Classifier (R61 to R77), with the meanings of RECOVERY_CONFIRM_TIMER_EXPIRY
and FREQUENCY_TIMER_EXPIRY. -/

namespace Sys2Proof.Machine

/-- R61: what LOAD CONFIG makes of the classifier. -/
def Classifier.activate : Classifier := { Classifier.reset with state := .normal }

/-- The classifier has changed state and reports the transition (R63). -/
def State.report (s : State) (cfg : Configuration) (c : Classifier) (onset : Bool) (setpointAtEntry : Nat) :
    State :=
  (s.setClassifier c).reactTo cfg ⟨c.state, onset⟩ setpointAtEntry

/-- Steps 1 to 5 of an onset (R65, R71). -/
def Classifier.openDisturbance (c : Classifier) (kind : DisturbanceKind) (entered : ClassifierState)
    (now : Micros) : Classifier :=
  { c with
    state := entered
    active := ActiveSet.only kind
    onset := some now
    elapsed := some 0
    confirm := none
    frequencyTimer := if kind = .frequency then some now else none }

/-- The events of an onset (R65). -/
def State.countOnset (s : State) (kind : DisturbanceKind) (entered : ClassifierState) : State :=
  let counted := s.count .onset
  let blocked := if entered = .outside then counted.count .block else counted
  if kind = .frequency then blocked.count .freqOut else blocked

/-- An onset (R65). -/
def State.openDisturbance (s : State) (cfg : Configuration) (kind : DisturbanceKind)
    (entered : ClassifierState) (setpointAtEntry : Nat) : State :=
  (s.countOnset kind entered).report cfg (s.classifier.openDisturbance kind entered s.time) true
    setpointAtEntry

/-- DISTURBED to OUTSIDE: BLOCK is counted and the transition is reported, not as an onset; the frequency
timer stops (R70 to R72). -/
def State.goOutside (s : State) (cfg : Configuration) (setpointAtEntry : Nat) : State :=
  (s.count .block).report cfg { s.classifier with state := .outside, frequencyTimer := none } false
    setpointAtEntry

/-- A kind joins the active set (R70). -/
def State.joinKind (s : State) (kind : DisturbanceKind) : State :=
  s.setClassifier { s.classifier with active := s.classifier.active.join kind }

/-- The confirm timer is restarted from the present time (R74). -/
def State.restartConfirm (s : State) : State :=
  s.setClassifier { s.classifier with confirm := some s.time }

/-- A sag onset, straight into OUTSIDE below the first point's figure (R66). -/
def State.sagOnset (s : State) (cfg : Configuration) (v setpointAtEntry : Nat) : State :=
  s.openDisturbance cfg .sag (if requiredFigure cfg 0 ≤ v then .disturbed else .outside) setpointAtEntry

/-- The envelope evaluation of R71 fails. -/
def State.envelopeFails (s : State) (cfg : Configuration) (v : Nat) : Bool :=
  s.classifier.active.sag && decide (v < requiredFigure cfg (s.classifier.elapsed.getD 0))

/-- The latest frequency figure is in band; with none reported it is not (R73, assumption 28). -/
def State.latestInBand (s : State) (cfg : Configuration) : Bool :=
  match s.classifier.latestFigure with
  | none => false
  | some f => inBand cfg f

/-- The recovery test (R73). -/
def State.recovers (s : State) (cfg : Configuration) (v : Nat) : Bool :=
  decide (cfg.voltRecovered ≤ v) && decide (s.tracker.state = .locked) && s.latestInBand cfg

/-- The recovery test made, and RECOVERING entered when it succeeds (R73). -/
def State.testRecovery (s : State) (cfg : Configuration) (v setpointAtEntry : Nat) : State :=
  if s.recovers cfg v then
    s.report cfg
      { s.classifier with state := .recovering, confirm := some s.time, frequencyTimer := none } false
      setpointAtEntry
  else s

/-- SAG joins when the figure is below V_sag (R70). -/
def State.joinSag (s : State) (cfg : Configuration) (v : Nat) : State :=
  if v < cfg.voltSag then s.joinKind .sag else s

/-- A figure set reaches the classifier (R66, R70, R71, R73, R74). -/
def State.classifyFigure (s : State) (cfg : Configuration) (v setpointAtEntry : Nat) : State :=
  match s.classifier.state with
  | .inactive => s
  | .normal => if v < cfg.voltSag then s.sagOnset cfg v setpointAtEntry else s
  | .recovering =>
    if v < cfg.voltSag then s.sagOnset cfg v setpointAtEntry
    else if v < cfg.voltRecovered then s.restartConfirm
    else s
  | .disturbed =>
    if (s.joinSag cfg v).envelopeFails cfg v then (s.joinSag cfg v).goOutside cfg setpointAtEntry
    else (s.joinSag cfg v).testRecovery cfg v setpointAtEntry
  | .outside => (s.joinSag cfg v).testRecovery cfg v setpointAtEntry

/-- A PHASE_JUMP report (R67, R70, R74). -/
def State.classifyPhaseJump (s : State) (cfg : Configuration) : State :=
  match s.classifier.state with
  | .inactive => s
  | .normal | .recovering => s.openDisturbance cfg .phase .disturbed s.allocator.setpoint
  | .disturbed | .outside => s.joinKind .phase

/-- A SYNC_LOSS report (R69, R70, R74). -/
def State.classifySyncLoss (s : State) (cfg : Configuration) : State :=
  match s.classifier.state with
  | .inactive => s
  | .normal | .recovering => s.openDisturbance cfg .sync .outside s.allocator.setpoint
  | .disturbed => (s.joinKind .sync).goOutside cfg s.allocator.setpoint
  | .outside => s.joinKind .sync

/-- The latest figure and the out-of-band count after a frequency report (R64). -/
def Classifier.recordFigure (c : Classifier) (cfg : Configuration) (f : Nat) : Classifier :=
  { c with
    latestFigure := some f
    outOfBand := if inBand cfg f then 0 else min 3 (c.outOfBand + 1) }

/-- FREQUENCY joins a disturbance in progress; in DISTURBED its timer starts (R70, R72). -/
def State.joinFrequency (s : State) : State :=
  if s.classifier.active.frequency then s
  else
    (s.setClassifier { s.classifier with
      active := s.classifier.active.join .frequency
      frequencyTimer :=
        if s.classifier.state = .disturbed then some s.time else s.classifier.frequencyTimer }).count .freqOut

/-- What the count that a frequency report leaves brings about (R68, R70, R74). -/
def State.actOnBand (s : State) (cfg : Configuration) : State :=
  match s.classifier.state with
  | .inactive => s
  | .normal =>
    if s.classifier.outOfBand = 3 then s.openDisturbance cfg .frequency .disturbed s.allocator.setpoint else s
  | .recovering =>
    if s.classifier.outOfBand = 3 then s.openDisturbance cfg .frequency .disturbed s.allocator.setpoint
    else if s.classifier.outOfBand = 0 then s
    else s.restartConfirm
  | .disturbed | .outside => if s.classifier.outOfBand = 3 then s.joinFrequency else s

/-- A frequency report (R64); in INACTIVE the classifier acts on none (R61). -/
def State.classifyFrequency (s : State) (cfg : Configuration) (f : Nat) : State :=
  if s.classifier.state = .inactive then s
  else (s.setClassifier (s.classifier.recordFigure cfg f)).actOnBand cfg

/-- The recovery confirm timer has reached T_rec (R74). -/
def State.confirmDue (s : State) (cfg : Configuration) : Bool :=
  decide (s.classifier.state = .recovering) && expired s.time (cfg.tRecovery * 1000) s.classifier.confirm

/-- The classifier enters NORMAL (R75). -/
def State.recovered (s : State) (cfg : Configuration) : State :=
  s.report cfg
    { s.classifier with
      state := .normal
      active := ActiveSet.empty
      onset := none
      elapsed := none
      confirm := none
      frequencyTimer := none }
    false s.allocator.setpoint

/-- RECOVERY_CONFIRM_TIMER_EXPIRY (R75). -/
def execRecoveryConfirmTimerExpiry (s : State) : Host.Outcome State Fault Refusal :=
  .next (s.configured fun cfg => if s.confirmDue cfg then s.recovered cfg else s)

/-- The frequency timer has reached T_freq_max (R72). -/
def State.frequencyTimerDue (s : State) (cfg : Configuration) : Bool :=
  decide (s.classifier.state = .disturbed) &&
    expired s.time (cfg.tFrequencyMax * 1000) s.classifier.frequencyTimer

/-- FREQUENCY_TIMER_EXPIRY (R72). -/
def execFrequencyTimerExpiry (s : State) : Host.Outcome State Fault Refusal :=
  .next (s.configured fun cfg =>
    if s.frequencyTimerDue cfg then s.goOutside cfg s.allocator.setpoint else s)

end Sys2Proof.Machine
end

