-- ==== Sys2Proof/Machine/Track.lean ====
section
/-! DEFINITION. The Grid Phase Tracker (R29 to R43), with the meanings of CAPTURE and LOSS_OF_SYNC. -/

namespace Sys2Proof.Machine

/-! ### The boundary schedule (R40, R41) -/

/-- The shift of the schedule in microseconds (R40). -/
def scheduleShift (cfg : Configuration) (period : Nat) : Int := (cfg.phaseShift * period).tdiv 3600

/-- The time of schedule index `m` (R40). -/
def boundaryTime (cfg : Configuration) (anchor : Micros) (period m : Nat) : Micros :=
  anchor + BitVec.ofInt 32 (scheduleShift cfg period + (m * period / 6 : Nat))

/-- The boundary of schedule index `m`: its time, sector m modulo 6, its index (R40). -/
def boundaryOf (cfg : Configuration) (anchor : Micros) (period m : Nat) : Boundary :=
  ⟨boundaryTime cfg anchor period m, m % 6, m⟩

/-- The least index from `start` on whose time is at or after `t` (R41): the least m with m × P / 6 at least
the time by which index 0 lies before `t`. -/
def leastIndex (cfg : Configuration) (anchor : Micros) (period : Nat) (t : Micros) (start : Nat) : Nat :=
  let first := boundaryTime cfg anchor period 0
  if atOrAfter first t then start
  else max start ((6 * (t - first).toNat + period - 1) / period)

/-- The least index the last boundary issued leaves open: m is at least 0 and greater than m_l - 6, where
`last` is m_l - 6 already (R41). -/
def firstOpenIndex (last : Option Int) : Nat :=
  match last with
  | none => 0
  | some m => (m + 1).toNat

/-- The loss deadline (R38). -/
def lossDeadline (anchor : Micros) (period : Nat) : Micros := afterMicros anchor (period + period / 4)

/-- The schedule, f and deadline laid out from a new anchor and P at the capture time `t` (R34, R37, R38,
R39, R41). -/
def Tracker.lay (k : Tracker) (cfg : Configuration) (anchor : Micros) (intervals : List Nat)
    (last : Option Int) (t : Micros) : Tracker :=
  let period := intervals.sum / 4
  { k with
    anchor := some anchor
    intervals := intervals
    period := period
    figure := frequencyOf period
    deadline := some (lossDeadline anchor period)
    next := some (boundaryOf cfg anchor period (leastIndex cfg anchor period t (firstOpenIndex last)))
    lastIndex := last }

/-! ### Captures -/

/-- R31: what LOAD CONFIG makes of the tracker. -/
def Tracker.activate (k : Tracker) (cfg : Configuration) : Tracker :=
  { k with
    state := .unlocked
    period := nominalPeriod cfg
    figure := frequencyOf (nominalPeriod cfg) }

/-- An interval is plausible (R30). -/
def plausible (cfg : Configuration) (interval : Nat) : Bool :=
  decide (4 * nominalPeriod cfg ≤ 5 * interval) && decide (4 * interval ≤ 5 * nominalPeriod cfg)

/-- Two intervals of a run differ by no more than 1 % of the nominal period (R33). -/
def agrees (cfg : Configuration) (a b : Nat) : Bool := decide (100 * (max a b - min a b) ≤ nominalPeriod cfg)

/-- The Sampling Unit takes its timing from the tracker (R50). -/
def Sampler.lockNotice (m : Sampler) : Sampler := { m with mode := .tracked, freeTimer := none }

/-- The tracker locks at the capture that completes the fourth interval (R34). -/
def State.lock (s : State) (cfg : Configuration) (intervals : List Nat) : State :=
  (s.setTracker
    (Tracker.lay { s.tracker with state := .locked, acquired := 4 } cfg s.time intervals none s.time)).setSampler
    s.sampler.lockNotice

/-- An interval is appended to the run; the fourth locks (R33, R34). -/
def State.extendRun (s : State) (cfg : Configuration) (interval : Nat) : State :=
  if 4 ≤ s.tracker.acquired + 1 then s.lock cfg (s.tracker.intervals ++ [interval])
  else s.setTracker { s.tracker with
    intervals := s.tracker.intervals ++ [interval]
    acquired := s.tracker.acquired + 1 }

/-- A run begins at this capture: entry into ACQUIRING (R32), or a broken run (R33). -/
def State.beginRun (s : State) : State :=
  s.setTracker { s.tracker with
    state := .acquiring
    anchor := some s.time
    intervals := []
    acquired := 0 }

/-- A plausible interval in ACQUIRING (R33). -/
def State.acquire (s : State) (cfg : Configuration) (interval : Nat) : State :=
  match s.tracker.intervals.getLast? with
  | none => s.extendRun cfg interval
  | some last => if agrees cfg interval last then s.extendRun cfg interval else s.beginRun

/-- The predicted crossing (R35). -/
def Tracker.predicted (k : Tracker) (now : Micros) : Micros := afterMicros (k.anchor.getD now) k.period

/-- The time by which a capture lies after the predicted crossing, signed (R35). -/
def Tracker.lateness (k : Tracker) (now : Micros) : Int := (now - k.predicted now).toInt

/-- The phase error in tenths of a degree, toward zero (R35). -/
def Tracker.phaseError (k : Tracker) (now : Micros) : Int := (k.lateness now * 3600).tdiv k.period

/-- The new anchor by the band of the phase error (R36). -/
def Tracker.newAnchor (k : Tracker) (now : Micros) : Micros :=
  if (k.phaseError now).natAbs ≤ 30 then
    k.predicted now + BitVec.ofInt 32 ((k.lateness now).tdiv 4)
  else now

/-- The event and the report of the band (R36). -/
def State.reportBand (s : State) (cfg : Configuration) (error : Int) : State :=
  if error.natAbs ≤ 30 then s
  else if error.natAbs ≤ cfg.jumpThreshold then s.count .phaseShift
  else (s.count .phaseJump).classifyPhaseJump cfg

/-- The last four of a list of intervals (R37). -/
def lastFour (intervals : List Nat) : List Nat := intervals.drop (intervals.length - 4)

/-- A plausible interval in LOCKED: re-anchor, then the band's event and report (R35 to R37). The last
boundary issued counts as index m_l - 6 of the new schedule (R41). -/
def State.follow (s : State) (cfg : Configuration) (interval : Nat) : State :=
  (s.setTracker (s.tracker.lay cfg (s.tracker.newAnchor s.time)
    (lastFour (s.tracker.intervals ++ [interval])) (s.tracker.lastIndex.map fun m => m - 6) s.time)).reportBand
    cfg (s.tracker.phaseError s.time)

/-- A capture with a plausible interval, by the tracker state (R32, R33, R35). -/
def State.plausibleCapture (s : State) (cfg : Configuration) (interval : Nat) : State :=
  match s.tracker.state with
  | .unlocked => s.beginRun
  | .acquiring => s.acquire cfg interval
  | .locked => s.follow cfg interval

/-- The interval of a capture at the present time, if there is a previous capture (R29). -/
def State.captureInterval (s : State) : Option Nat := s.tracker.previous.map fun p => (s.time - p).toNat

/-- The capture's own effect: it becomes the previous capture, and acts when its interval is plausible (R29,
R30). -/
def State.judgeCapture (s : State) (cfg : Configuration) : State :=
  let recorded := s.setTracker { s.tracker with previous := some s.time }
  match s.captureInterval with
  | none => recorded
  | some interval => if plausible cfg interval then recorded.plausibleCapture cfg interval else recorded

/-- A capture, and after its effect the frequency report (R39). -/
def State.capture (s : State) (cfg : Configuration) : State :=
  (s.judgeCapture cfg).classifyFrequency cfg (s.judgeCapture cfg).tracker.figure

/-- CAPTURE (R29). While UNCONFIGURED the tracker is idle. -/
def execCapture (s : State) : Host.Outcome State Fault Refusal :=
  .next (s.configured fun cfg => s.capture cfg)

/-! ### Loss of sync (R38) -/

/-- The loss deadline has been reached (R38). -/
def State.lossDue (s : State) : Bool :=
  decide (s.tracker.state = .locked) && reached s.time s.tracker.deadline

/-- What the tracker holds after a loss: P, f and the previous capture are kept (R38). -/
def Tracker.lose (k : Tracker) : Tracker :=
  { k with
    state := .unlocked
    intervals := []
    acquired := 0
    anchor := none
    next := none
    deadline := none
    lastIndex := none }

/-- The Sampling Unit enters FREE; the first free-running boundary is the later of the sector's nominal end
and the loss (R49). In FREE or IDLE a loss changes nothing. -/
def Sampler.lossNotice (m : Sampler) (cfg : Configuration) (now : Micros) : Sampler :=
  match m.mode with
  | .tracked =>
    { m with
      mode := .free
      freeTimer := some (match m.sector with
        | none => now
        | some sector => laterOf (afterMicros sector.start (nominalSector cfg)) now) }
  | .idle | .free => m

/-- The tracker loses sync (R38, R49, R160, R165). -/
def State.loseSync (s : State) (cfg : Configuration) : State :=
  ((((s.setTracker s.tracker.lose).setSampler (s.sampler.lossNotice cfg s.time)).setGates
    s.gates.block).count .syncLoss).classifySyncLoss cfg

/-- LOSS_OF_SYNC (R38). -/
def execLossOfSync (s : State) : Host.Outcome State Fault Refusal :=
  .next (s.configured fun cfg => if s.lossDue then s.loseSync cfg else s)

end Sys2Proof.Machine
end

