-- ==== Sys2Proof/Machine/Sampling.lean ====
section
/-! DEFINITION. The Sampling Unit (R44 to R60), the hand-over of a figure set to its neighbours (R56) and of
a tracked boundary to the regulator and the generator (R40, R154, R161), with the meanings of SAMPLE,
SECTOR_BOUNDARY and FREE_RUNNING_BOUNDARY. -/

namespace Sys2Proof.Machine

/-! ### Samples (R46, R47) -/

/-- The instant of the next sample of a sector: sample j falls at the floor of j × B / 96 after its start
(R46). -/
def Sector.nextInstant (x : Sector) : Micros := afterMicros x.start (x.count * x.base / 96)

/-- A window takes a sample at its end and gives up its oldest entry (R47). -/
def slide (window : List Int) (sample : Int) : List Int := (window ++ [sample]).drop 1

/-- One sample of five channels (R47). -/
def Sampler.convert (m : Sampler) (plant : PlantInputs) : Sampler :=
  { m with
    windowAB := slide m.windowAB (lineCount plant.lineAB)
    windowBC := slide m.windowBC (lineCount plant.lineBC)
    windowCA := slide m.windowCA (lineCount plant.lineCA)
    currentSum := m.currentSum + plant.current.toNat
    voltageSum := m.voltageSum + plant.voltage.toNat
    sector := m.sector.map fun x => { x with count := x.count + 1 } }

/-- A sector begins, with its sample 0 (R46). -/
def Sampler.beginSector (m : Sampler) (start : Micros) (base : Nat) (plant : PlantInputs) : Sampler :=
  Sampler.convert { m with sector := some ⟨start, base, 0⟩, currentSum := 0, voltageSum := 0 } plant

/-- A temperature conversion: the result becomes θ at once, and is the θ of the figure sets that follow (R51). -/
def Sampler.convertSink (m : Sampler) (plant : PlantInputs) : Sampler :=
  { m with sink := some (sinkDegrees plant.sink) }

/-- R45: what LOAD CONFIG makes of the Sampling Unit. -/
def Sampler.activate (m : Sampler) (cfg : Configuration) (now : Micros) (plant : PlantInputs) : Sampler :=
  let sampling := Sampler.beginSector
    { m with mode := .free, freeTimer := some (afterMicros now (nominalSector cfg)) }
    now (nominalPeriod cfg) plant
  if cfg.temperatureFitted then sampling.convertSink plant else sampling

/-- A sample instant of the sector in progress has been reached (R46). -/
def State.sampleDue (s : State) : Bool :=
  match s.sampler.sector with
  | none => false
  | some x => decide (x.count < 16) && atOrAfter s.time x.nextInstant

/-- SAMPLE (R47). -/
def execSample (plant : PlantInputs) (s : State) : Host.Outcome State Fault Refusal :=
  .next (s.configured fun _ => if s.sampleDue then s.setSampler (s.sampler.convert plant) else s)

/-! ### The figure set (R52 to R55) -/

/-- The largest magnitude among the entries of a window (R52). -/
def amplitude (window : List Int) : Nat := window.foldl (fun a x => max a x.natAbs) 0

/-- A line figure (R52). -/
def lineFigure (cfg : Configuration) (window : List Int) : Nat :=
  min 1500 (amplitude window * 1000 / cfg.peakCount)

/-- The mean of a sum over the samples of a sector, scaled to a full-scale value (R53). -/
def scaledMean (sum count fullScale : Nat) : Nat := sum / count * fullScale / 4095

/-- C_volt (R54). -/
def capabilityVolt (cfg : Configuration) (v : Nat) : Nat :=
  if cfg.voltFull ≤ v then cfg.rating
  else if v ≤ cfg.voltFloor then 0
  else cfg.rating * (v - cfg.voltFloor) / (cfg.voltFull - cfg.voltFloor)

/-- C_therm (R55). -/
def capabilityThermal (cfg : Configuration) (sink : Option Int) : Nat :=
  match sink with
  | none => cfg.rating
  | some degrees =>
    if degrees ≤ cfg.tDerate then cfg.rating
    else if cfg.tMax ≤ degrees then 0
    else cfg.rating * (cfg.tMax - degrees).toNat / (cfg.tMax - cfg.tDerate)

/-- The samples taken by the sector in progress (R46). -/
def Sampler.sampleCount (m : Sampler) : Nat :=
  match m.sector with
  | none => 0
  | some x => x.count

/-- The figure set of the sector that closes (R52 to R55). -/
def Sampler.formFigures (m : Sampler) (cfg : Configuration) : Figures :=
  let ab := lineFigure cfg m.windowAB
  let bc := lineFigure cfg m.windowBC
  let ca := lineFigure cfg m.windowCA
  let v := min ab (min bc ca)
  let volt := capabilityVolt cfg v
  let thermal := capabilityThermal cfg m.sink
  { lineAB := ab
    lineBC := bc
    lineCA := ca
    voltage := v
    current := scaledMean m.currentSum m.sampleCount cfg.currentFullScale
    dcVoltage := scaledMean m.voltageSum m.sampleCount cfg.voltageFullScale
    sink := m.sink
    capabilityVolt := volt
    capabilityThermal := thermal
    capability := min cfg.rating (min volt thermal) }

/-- The over-temperature comparison (R58): θ present and at or above T_max. -/
def sinkTooHot (cfg : Configuration) (sink : Option Int) : Bool :=
  match sink with
  | none => false
  | some degrees => decide ((cfg.tMax : Int) ≤ degrees)

/-- The sector closes: the whole figure set replaces the previous one and the three conditions are decided
(R56 to R60). -/
def Sampler.closeSector (m : Sampler) (cfg : Configuration) : Sampler :=
  let figures := m.formFigures cfg
  { m with
    figures := figures
    overcurrent := decide (cfg.overcurrent < figures.current)
    overTemperature := sinkTooHot cfg figures.sink
    dcLimit := decide (cfg.voltageMax < figures.dcVoltage) }

/-- A condition that holds is reported as a trip cause, but not when it held at the previous figure set and
the station is TRIPPED (R57, R58). -/
def tripReported (now before : Bool) (state : StationState) : Bool :=
  now && !(before && decide (state = .tripped))

/-- The allocator takes C, I_meas and the DC-limit condition and, in a firing state, clamps SP to the new C
(R148). -/
def Allocator.takeFigures (a : Allocator) (m : Sampler) (state : StationState) : Allocator :=
  { a with
    latestC := m.figures.capability
    latestI := m.figures.current
    latestDcLimit := m.dcLimit
    setpoint := if state.firing then min a.setpoint m.figures.capability else a.setpoint }

/-- The figure set is formed and the allocator has taken it (R52, R56, R148). -/
def State.formFigureSet (s : State) (cfg : Configuration) : State :=
  let closed := s.sampler.closeSector cfg
  (s.setSampler closed).setAllocator (s.allocator.takeFigures closed s.station.state)

/-- What the figure set hands on, decided before any neighbour acts on it (R57, R58, assumption 16). -/
def State.figureReport (s : State) (cfg : Configuration) (boundary : Option Boundary) : FigureReport where
  setpointBefore := s.allocator.setpoint
  overcurrent :=
    tripReported (s.sampler.closeSector cfg).overcurrent s.sampler.overcurrent s.station.state
  overTemperature :=
    tripReported (s.sampler.closeSector cfg).overTemperature s.sampler.overTemperature s.station.state
  boundary := boundary

/-! ### The neighbours of one figure set (R56) -/

/-- The regulator's update at a tracked boundary taken in a firing state. Its angle waits for the generator until
that has taken the boundary, and is latched at once after that, but not over the entry angle of a release that
came between (R154, R156, R161, R167). -/
def Delivery.regulate (d : Delivery) (cfg : Configuration) : Delivery :=
  if d.state.station.state.firing then
    let updated := d.state.regulator.update cfg
      (min d.state.allocator.setpoint d.state.sampler.figures.capability) d.state.sampler.figures.current
    let regulated := d.state.setRegulator updated
    match d.stage with
    | .awaited => { d with state := regulated, angle := some updated.lastAngle }
    | .taken => { d with state := regulated.setGates (regulated.gates.latch (some updated.lastAngle)) }
    | .released => { d with state := regulated }
  else d

/-- The generator takes a tracked boundary: it schedules with the latched angle, then latches the angle
produced there if it has one (R161, R162). -/
def Delivery.generate (d : Delivery) (cfg : Configuration) (b : Boundary) : Delivery :=
  { state := d.state.setGates
      ((d.state.gates.schedule cfg d.state.tracker.period b).latch d.angle)
    angle := none
    stage := .taken }

/-- One neighbour acts on the figure set and its boundary (R56, R57, R58, R10, R23, R154, R161). -/
def Delivery.act (cfg : Configuration) (r : FigureReport) (d : Delivery) : Neighbour → Delivery
  | .classifier =>
    { d with state := d.state.classifyFigure cfg d.state.sampler.figures.voltage r.setpointBefore }
  | .overcurrent => { d with state := if r.overcurrent then d.state.trip cfg .dcOvercurrent else d.state }
  | .overTemperature =>
    { d with state := if r.overTemperature then d.state.trip cfg .overTemperature else d.state }
  | .controller => { d with state := d.state.boundaryTests cfg }
  | .regulator =>
    match r.boundary with
    | none => d
    | some _ => d.regulate cfg
  | .generator =>
    match r.boundary with
    | none => d
    | some b => d.generate cfg b

/-- An entry into STARTING or RESTART out of another state has released the gates (R159): a boundary the
generator has taken before it gives no angle any more (R167). -/
def Delivery.noteRelease (d : Delivery) (before : StationState) : Delivery :=
  if d.stage = .taken ∧ d.state.station.state ≠ before ∧
      (d.state.station.state = .starting ∨ d.state.station.state = .restart) then
    { d with stage := .released }
  else d

/-- One neighbour acts, and a release it brings about is noted. -/
def Delivery.pass (cfg : Configuration) (r : FigureReport) (d : Delivery) (n : Neighbour) : Delivery :=
  (d.act cfg r n).noteRelease d.state.station.state

/-- The order in which the spec's chapters take the neighbours, used when a command names no whole order. -/
def chapterOrder : List Neighbour :=
  [.classifier, .overcurrent, .overTemperature, .controller, .regulator, .generator]

/-- The order of a boundary command (assumption 4). -/
def deliveryOrder (order : List Neighbour) : List Neighbour :=
  if wholeOrder order then order else chapterOrder

/-- The neighbours act on a figure set, each once, in the order given (R56). -/
def State.deliver (s : State) (cfg : Configuration) (r : FigureReport) (order : List Neighbour) : State :=
  ((deliveryOrder order).foldl (Delivery.pass cfg r) ⟨s, none, .awaited⟩).state

/-- The new sector begins; at every sixth figure set the temperature is converted as part of it (R46, R51,
assumption 15). -/
def Sampler.nextSector (m : Sampler) (cfg : Configuration) (start : Micros) (base : Nat)
    (plant : PlantInputs) : Sampler :=
  if m.cycle + 1 < 6 then
    Sampler.beginSector { m with cycle := m.cycle + 1 } start base plant
  else
    let begun := Sampler.beginSector { m with cycle := 0 } start base plant
    if cfg.temperatureFitted then begun.convertSink plant else begun

/-- A sector boundary of either mode at the Sampling Unit: the sector closes, its figure set is formed and
handed on, and the new sector begins (R46, R48, R52, R56). -/
def State.takeBoundary (s : State) (cfg : Configuration) (boundary : Option Boundary) (start : Micros)
    (base : Nat) (plant : PlantInputs) (order : List Neighbour) : State :=
  let delivered := (s.formFigureSet cfg).deliver cfg (s.figureReport cfg boundary) order
  delivered.setSampler (delivered.sampler.nextSector cfg start base plant)

/-! ### Tracked and free-running boundaries -/

/-- The time of the tracker's next boundary has been reached (R40). -/
def State.boundaryDue (s : State) : Bool :=
  decide (s.tracker.state = .locked) && reached s.time (s.tracker.next.map Boundary.time)

/-- The boundary is issued: index m + 1 of the same schedule is the next, and m the last issued (R40, R41). -/
def Tracker.issue (k : Tracker) (cfg : Configuration) (b : Boundary) (now : Micros) : Tracker :=
  { k with
    next := some (boundaryOf cfg (k.anchor.getD now) k.period (b.index + 1))
    lastIndex := some b.index }

/-- The tracker issues its next boundary and every block it reaches acts on it (R40). -/
def State.issueBoundary (s : State) (cfg : Configuration) (plant : PlantInputs) (order : List Neighbour) :
    State :=
  match s.tracker.next with
  | none => s
  | some b =>
    (s.setTracker (s.tracker.issue cfg b s.time)).takeBoundary cfg (some b) b.time s.tracker.period plant order

/-- SECTOR_BOUNDARY (R40). -/
def execSectorBoundary (plant : PlantInputs) (order : List Neighbour) (s : State) :
    Host.Outcome State Fault Refusal :=
  .next (s.configured fun cfg => if s.boundaryDue then s.issueBoundary cfg plant order else s)

/-- The free-running timer has expired (R48). -/
def State.freeBoundaryDue (s : State) : Bool :=
  decide (s.sampler.mode = .free) && reached s.time s.sampler.freeTimer

/-- A free-running boundary at its own time; the next falls one nominal sector later (R48). -/
def State.freeBoundary (s : State) (cfg : Configuration) (plant : PlantInputs) (order : List Neighbour) :
    State :=
  match s.sampler.freeTimer with
  | none => s
  | some t =>
    (s.setSampler { s.sampler with freeTimer := some (afterMicros t (nominalSector cfg)) }).takeBoundary cfg
      none t (nominalPeriod cfg) plant order

/-- FREE_RUNNING_BOUNDARY (R48). -/
def execFreeRunningBoundary (plant : PlantInputs) (order : List Neighbour) (s : State) :
    Host.Outcome State Fault Refusal :=
  .next (s.configured fun cfg => if s.freeBoundaryDue then s.freeBoundary cfg plant order else s)

end Sys2Proof.Machine
end

