-- ==== Sys2Proof/Machine/Allocate.lean ====
section
/-! DEFINITION. The Cover Allocator (R131 to R150) with the contributions it reads from the Peer Table
(R123), and the meaning of SHARE_UPDATE. -/

namespace Sys2Proof.Machine

/-! ### Configuration and demand (R132, R134) -/

/-- R132: what LOAD CONFIG makes of the allocator. -/
def Allocator.activate (a : Allocator) (cfg : Configuration) (now : Micros) : Allocator :=
  { a with
    steps := some
      { up := rampStep cfg.rampUp cfg.sharePeriod
        restart := rampStep cfg.rampRestart cfg.sharePeriod
        down := rampStep cfg.rampDown cfg.sharePeriod }
    shareTimer := some (afterMicros now (cfg.sharePeriod * 1000))
    ms := 0
    msPhase := 0 }

/-- A demand is stored: into D in OFF, where the pending demand becomes none, else as pending (R134). -/
def Allocator.storeDemand (a : Allocator) (state : StationState) (value : Nat) : Allocator :=
  if state = .off then { a with demand := value, pendingDemand := none }
  else { a with pendingDemand := some value }

/-- A pending demand becomes D (R134, step 1 of R136). -/
def Allocator.applyPending (a : Allocator) : Allocator :=
  { a with demand := a.pendingDemand.getD a.demand, pendingDemand := none }

/-! ### Contributions of the Peer Table (R123) -/

/-- The state codes of the firing states (R123). -/
def codeFires (code : Nat) : Bool := decide (code ∈ [2, 3, 4, 6, 7])

/-- The state codes in which a LOST peer was carrying less than its demand (R123). -/
def codeOwes (code : Nat) : Bool := decide (code ∈ [4, 5, 6, 9])

/-- The shortfall counted for an entry (R123). -/
def Peer.shortfallCounted (p : Peer) : Nat :=
  match p.status with
  | .fresh | .silent => p.shortfall
  | .lost => if codeOwes p.lastState then p.demand else 0

/-- The headroom counted for an entry (R123). -/
def Peer.headroomCounted (p : Peer) : Nat :=
  match p.status with
  | .fresh => p.headroom
  | .silent | .lost => 0

/-- The delivered current counted in G for an entry (R123). -/
def Peer.deliveredCounted (p : Peer) : Nat :=
  match p.status with
  | .fresh | .silent => if codeFires p.lastState then p.delivered else 0
  | .lost => 0

/-! ### The steps of a share update (R136) -/

/-- Own headroom H (R138). -/
def ownHeadroom (cfg : Configuration) (state : StationState) (demand capability : Nat) : Nat :=
  if state = .run ∧ cfg.coverEnabled = true then min capability (demand + cfg.coverLimit) - demand else 0

/-- Cover c (R140), its cases in the order of the table. -/
def coverOf (state : StationState) (headroom shortfallSum headroomSum : Nat) : Nat :=
  if state = .run then
    if headroom = 0 ∨ shortfallSum = 0 then 0
    else if headroomSum ≤ shortfallSum then headroom
    else shortfallSum * headroom / headroomSum
  else 0

/-- Target T (R141). -/
def targetOf (state : StationState) (demand capability cover : Nat) : Nat :=
  match state with
  | .run => min demand capability + cover
  | .starting | .ride | .restart => min demand capability
  | .unconfigured | .off | .syncing | .blocked | .stopping | .standby | .tripped => 0

/-- The rising step of a state (R142). -/
def risingStep (steps : Steps) (state : StationState) : Nat :=
  if state = .restart then steps.restart else steps.up

/-- The new setpoint of a firing state: rise, held under the DC-limit condition, or fall, then the clamp to
C (R142, R143). -/
def rampedSetpoint (steps : Steps) (state : StationState) (dcLimit : Bool)
    (setpoint target capability : Nat) : Nat :=
  let moved :=
    if setpoint < target then
      if dcLimit then setpoint else min target (setpoint + risingStep steps state)
    else max target (setpoint - steps.down)
  min moved capability

/-- A rise is held at this update (R143). -/
def riseHeld (state : StationState) (dcLimit : Bool) (setpoint target : Nat) : Bool :=
  state.firing && dcLimit && decide (setpoint < target)

/-- The DC hold marker after an update (R143). -/
def dcMarkerAfter (marker dcLimit held : Bool) : Bool := if dcLimit then marker || held else false

/-- RUN with D above the latest C (R144). -/
def demandAboveCapability (state : StationState) (demand capability : Nat) : Bool :=
  decide (state = .run) && decide (capability < demand)

/-- The elapsed milliseconds since the last update, modulo 2^32; 0 when it is none (R135). -/
def Allocator.elapsedMs (a : Allocator) : Nat :=
  match a.lastUpdate with
  | none => 0
  | some u => (a.ms - u.2).toNat

/-- The sums of step 4: own figures plus one contribution per entry (R139). -/
def sumWith (own : Nat) (peers : List Peer) (f : Peer → Nat) : Nat := own + (peers.map f).sum

/-- Steps 1 to 8 of R136 on the allocator's figures, and the record of the update of step 10 (R135 to
R144). -/
def Allocator.update (a : Allocator) (cfg : Configuration) (state : StationState)
    (origin : Option StandbyOrigin) (peers : List Peer) (now : Micros) : Allocator :=
  let a1 := a.applyPending
  let shortfall := ownShortfall state origin a1.demand a1.setpoint a1.latestC
  let headroom := ownHeadroom cfg state a1.demand a1.latestC
  let shortfallSum := sumWith shortfall peers Peer.shortfallCounted
  let headroomSum := sumWith headroom peers Peer.headroomCounted
  let cover := coverOf state headroom shortfallSum headroomSum
  let target := targetOf state a1.demand a1.latestC cover
  let held := riseHeld state a1.latestDcLimit a1.setpoint target
  { a1 with
    shortfall := shortfall
    headroom := headroom
    shortfallSum := shortfallSum
    headroomSum := headroomSum
    groupDelivered := sumWith (if state.firing then a1.latestI else 0) peers Peer.deliveredCounted
    cover := cover
    target := target
    setpoint :=
      if state.firing then
        rampedSetpoint (a1.steps.getD ⟨0, 0, 0⟩) state a1.latestDcLimit a1.setpoint target a1.latestC
      else a1.setpoint
    dcHoldMarker := dcMarkerAfter a1.dcHoldMarker a1.latestDcLimit held
    capabilityMarker := demandAboveCapability state a1.demand a1.latestC
    lastUpdate := some (now, a1.ms) }

/-- DC_VOLTAGE_LIMIT is counted by an update (R143): a rise held with the marker clear. -/
def Allocator.countsDcLimit (a : Allocator) (updated : Allocator) (state : StationState) : Bool :=
  riseHeld state a.latestDcLimit a.setpoint updated.target && !a.dcHoldMarker

/-- CAPABILITY_LIMIT is counted by an update (R144): RUN with D above C and the marker clear. -/
def Allocator.countsCapability (a : Allocator) (updated : Allocator) : Bool :=
  updated.capabilityMarker && !a.capabilityMarker

/-- One occurrence, if it came about. -/
def State.countIf (s : State) (came : Bool) (k : EventKind) : State := if came then s.count k else s

/-- The SHARE frame composed at step 9 (R97, R145). -/
def State.shareBody (s : State) (cfg : Configuration) : ShareBody where
  stateCode := s.station.state.code
  sharePeriod := cfg.sharePeriod
  voltage := s.sampler.figures.voltage
  demand := s.allocator.demand
  delivered := s.sampler.figures.current
  capability := s.sampler.figures.capability
  shortfall := s.allocator.shortfall
  headroom := s.allocator.headroom
  cover := s.allocator.cover

/-- A SHARE frame is placed in the share slot; a frame it replaces counts TX_DROPPED (R86). -/
def State.placeShare (s : State) (body : ShareBody) : State :=
  (s.countIf s.line.shareSlot.isSome .txDropped).setLine { s.line with shareSlot := some body }

/-- Steps 1 to 9 of a share update, and the record of step 10 (R136). -/
def State.allocate (s : State) (cfg : Configuration) : State :=
  let updated := s.allocator.update cfg s.station.state s.station.standbyOrigin s.peers s.time
  let counted := ((s.setAllocator updated).countIf
    (s.allocator.countsDcLimit updated s.station.state) .dcVoltageLimit).countIf
    (s.allocator.countsCapability updated) .capabilityLimit
  counted.placeShare (counted.shareBody cfg)

/-- One share update, taken whole, and after it the Station Controller's tests (R136, R146). -/
def State.runShareUpdate (s : State) (cfg : Configuration) : State :=
  (s.allocate cfg).endOfUpdate cfg s.allocator.elapsedMs

/-! ### When a share update runs (R125, R135) -/

/-- The share timer expires next at an instant plus P_sh. -/
def State.restartShareTimer (s : State) (cfg : Configuration) (from_ : Micros) : State :=
  s.setAllocator { s.allocator with shareTimer := some (afterMicros from_ (cfg.sharePeriod * 1000)) }

/-- A share update runs in every configured state other than OFF (R135). -/
def StationState.updates : StationState → Bool
  | .unconfigured | .off => false
  | .syncing | .starting | .run | .ride | .blocked | .restart | .stopping | .standby | .tripped => true

/-- The share timer has expired (R135). -/
def State.shareDue (s : State) : Bool := reached s.time s.allocator.shareTimer

/-- The expiry: the next one P_sh after it, and the update where one runs (R135). -/
def State.shareExpiry (s : State) (cfg : Configuration) : State :=
  match s.allocator.shareTimer with
  | none => s
  | some t =>
    let restarted := s.restartShareTimer cfg t
    if s.station.state.updates then restarted.runShareUpdate cfg else restarted

/-- SHARE_UPDATE (R135, R136). -/
def execShareUpdate (s : State) : Host.Outcome State Fault Refusal :=
  .next (s.configured fun cfg => if s.shareDue then s.shareExpiry cfg else s)

/-- An early request is admitted: at least 1 ms since the last update, or none held, outside OFF (R125). -/
def State.earlyAdmitted (s : State) : Bool :=
  s.station.state.updates &&
    (match s.allocator.lastUpdate with
      | none => true
      | some u => hasRun s.time u.1 1000)

/-- An early share update, which restarts the share timer from this instant (R125). -/
def State.earlyUpdate (s : State) (cfg : Configuration) : State :=
  if s.earlyAdmitted then (s.restartShareTimer cfg s.time).runShareUpdate cfg else s

end Sys2Proof.Machine
end

