-- ==== Sys2Proof/Machine/Peers.lean ====
section
/-! DEFINITION. The Peer Table (R109 to R130) and the stages of the Frame Filter (R93, R102 to R107), with
the meanings of PEER_SILENT, PEER_LOST, READ_PEER and FORGET_PEER. -/

namespace Sys2Proof.Machine

/-! ### The table -/

/-- The entry of a station number (R109). -/
def findPeer (peers : List Peer) (n : Nat) : Option Peer := peers.find? fun p => decide (p.station = n)

/-- A new entry is placed in ascending order of station number (R109). -/
def insertPeer (p : Peer) : List Peer → List Peer
  | [] => [p]
  | q :: rest => if p.station < q.station then p :: q :: rest else q :: insertPeer p rest

/-- The entry of a station number is changed; the others keep theirs. -/
def updatePeer (peers : List Peer) (n : Nat) (f : Peer → Peer) : List Peer :=
  peers.map fun p => if p.station = n then f p else p

/-- The entry of a station number is removed; the others keep their order (R118, R128). -/
def removePeer (peers : List Peer) (n : Nat) : List Peer := peers.filter fun p => decide (p.station ≠ n)

/-- The fields an accepted SHARE or ALERT carries (R116, R117). -/
def Peer.takeBody (p : Peer) : Body → Peer
  | .share b =>
    { p with
      lastState := b.stateCode
      sharePeriod := some b.sharePeriod
      voltage := b.voltage
      demand := b.demand
      delivered := b.delivered
      capability := b.capability
      shortfall := b.shortfall
      headroom := b.headroom
      cover := b.cover }
  | .alert b =>
    { p with
      lastState := b.stateCode
      voltage := b.voltage
      capability := b.capability
      shortfall := b.shortfall
      headroom := 0 }
  | .leave => p

/-- An accepted frame makes the entry FRESH with age 0 and its sequence the last (R115). -/
def Peer.refresh (p : Peer) (sequence : Byte) : Peer :=
  { p with status := .fresh, age := 0, agePhase := 0, lastSequence := sequence }

/-- A new entry before the fields its frame carries (R112). -/
def Peer.created (n : Nat) (sequence : Byte) : Peer where
  station := n
  status := .fresh
  lastState := 0
  demand := 0
  delivered := 0
  capability := 0
  shortfall := 0
  headroom := 0
  cover := 0
  voltage := 0
  sharePeriod := none
  lastSequence := sequence
  age := 0
  agePhase := 0
  missed := 0

/-! ### Judging a frame (R111 to R118) -/

/-- A frame from a number without an entry (R112). -/
def State.acceptNew (s : State) (f : Frame) : State :=
  match f.body with
  | .leave => s
  | .share _ | .alert _ =>
    (s.setPeers (insertPeer ((Peer.created f.station f.sequence).takeBody f.body) s.peers)).count .peerJoined

/-- An accepted LEAVE removes the entry (R118). -/
def State.acceptLeave (s : State) (n : Nat) : State :=
  (s.setPeers (removePeer s.peers n)).count .peerLeft

/-- An accepted SHARE or ALERT from a station with an entry, with its missed count (R114 to R117). -/
def State.acceptFields (s : State) (f : Frame) (missed : Nat → Nat) : State :=
  s.setPeers (updatePeer s.peers f.station fun p =>
    { (p.takeBody f.body).refresh f.sequence with missed := missed p.missed })

/-- A flagged frame from a station with an entry (R113). -/
def State.acceptFlagged (s : State) (f : Frame) : State :=
  match f.body with
  | .leave => s.acceptLeave f.station
  | .share _ | .alert _ => (s.acceptFields f fun _ => 0).count .peerRestart

/-- The distance of a sequence ahead of the last one held, modulo 256 (R114). -/
def sequenceDistance (sequence last : Byte) : Nat := (sequence - last).toNat

/-- The verdict on an unflagged frame from a station with an entry (R114). -/
def distanceVerdict (d : Nat) (status : PeerStatus) : Verdict :=
  if d = 0 then .duplicate
  else if d ≤ 127 then .accepted
  else if status = .fresh then .stale
  else .accepted

/-- What an accepted unflagged frame does, by its distance (R114). -/
def State.acceptUnflagged (s : State) (f : Frame) (d : Nat) : State :=
  match f.body with
  | .leave => s.acceptLeave f.station
  | .share _ | .alert _ =>
    if d = 1 then s.acceptFields f id
    else if d ≤ 127 then (s.acceptFields f fun m => min 255 (m + (d - 1))).count .seqGap
    else (s.acceptFields f id).count .peerRestart

/-- The Peer Table's verdict on a frame handed over (R111). -/
def State.verdict (s : State) (f : Frame) : Verdict :=
  match findPeer s.peers f.station with
  | none => .accepted
  | some p =>
    if f.first then .accepted else distanceVerdict (sequenceDistance f.sequence p.lastSequence) p.status

/-- What the table does with a frame it accepts (R112 to R118). -/
def State.acceptFrame (s : State) (f : Frame) : State :=
  match findPeer s.peers f.station with
  | none => s.acceptNew f
  | some p =>
    if f.first then s.acceptFlagged f
    else s.acceptUnflagged f (sequenceDistance f.sequence p.lastSequence)

/-- An ALERT whose kind asks for an early share update (R125). -/
def Body.asksEarly : Body → Bool
  | .alert b =>
    match b.kind with
    | .onset | .block | .trip => true
    | .recovered | .standby => false
  | .share _ | .leave => false

/-- The reception counter of a verdict rises by one, wrapping (R93, R106). -/
def FrameFilter.countVerdict (m : FrameFilter) : Verdict → FrameFilter
  | .accepted => { m with accepted := m.accepted + 1 }
  | .duplicate => { m with duplicate := m.duplicate + 1 }
  | .stale => { m with stale := m.stale + 1 }

/-- Hand-over to the Peer Table: verdict, counter, the table's changes, and the early share update an accepted
ALERT may start (R106, R111, R125). -/
def State.handOver (s : State) (cfg : Configuration) (f : Frame) : State :=
  let counted := s.setFilter (s.filter.countVerdict (s.verdict f))
  match s.verdict f with
  | .accepted =>
    let accepted := counted.acceptFrame f
    if f.body.asksEarly then accepted.earlyUpdate cfg else accepted
  | .duplicate | .stale => counted

/-! ### The filter stages (R102 to R105) -/

/-- A frame discarded at the framing stage (R103). -/
def State.discardFrame (s : State) : State :=
  (s.setFilter { s.filter with checkErrors := s.filter.checkErrors + 1 }).count .frameError

/-- The stages after framing: own number, group, hand-over (R102, R104, R105). -/
def State.passFrame (s : State) (cfg : Configuration) (f : Frame) : State :=
  if s.filter.station = some f.station then s.trip cfg .duplicateStation
  else if s.filter.group ≠ some f.group then
    s.setFilter { s.filter with otherGroup := s.filter.otherGroup + 1 }
  else s.handOver cfg f

/-- A frame handed to the filter passes its stages (R102). -/
def State.filterFrame (s : State) (cfg : Configuration) (bytes : List Byte) (malformed : Bool) : State :=
  match if malformed then none else frameOf bytes with
  | none => s.discardFrame
  | some f => s.passFrame cfg f

/-! ### Aging (R120, R121) -/

/-- The entry of station `n` is FRESH and its age has reached T_silent (R120). -/
def State.silentDue (s : State) (cfg : Configuration) (n : Nat) : Bool :=
  match findPeer s.peers n with
  | none => false
  | some p => decide (p.status = .fresh) && decide (cfg.tSilent ≤ p.age)

/-- The entry of station `n` is SILENT and its age has reached T_lost (R121). -/
def State.lostDue (s : State) (cfg : Configuration) (n : Nat) : Bool :=
  match findPeer s.peers n with
  | none => false
  | some p => decide (p.status = .silent) && decide (cfg.tLost ≤ p.age)

/-- An entry takes a status and its event is counted (R120, R121). -/
def State.agePeer (s : State) (n : Nat) (status : PeerStatus) (k : EventKind) : State :=
  (s.setPeers (updatePeer s.peers n fun p => { p with status := status })).count k

/-- PEER_SILENT (R120). -/
def execPeerSilent (n : Fin 16) (s : State) : Host.Outcome State Fault Refusal :=
  .next (s.configured fun cfg => if s.silentDue cfg n then s.agePeer n .silent .peerSilent else s)

/-- PEER_LOST (R121). -/
def execPeerLost (n : Fin 16) (s : State) : Host.Outcome State Fault Refusal :=
  .next (s.configured fun cfg => if s.lostDue cfg n then s.agePeer n .lost .peerLost else s)

/-! ### READ PEER and FORGET PEER (R127, R128) -/

/-- The status codes of READ PEER (R196). -/
def PeerStatus.number : PeerStatus → Nat
  | .fresh => 1
  | .silent => 2
  | .lost => 3

/-- The 22 data bytes of READ PEER (R196). -/
def Peer.report (p : Peer) : List Byte :=
  [BitVec.ofNat 8 p.station, BitVec.ofNat 8 p.status.number, BitVec.ofNat 8 p.lastState] ++
  be16 p.demand ++ be16 p.delivered ++ be16 p.capability ++ be16 p.shortfall ++ be16 p.headroom ++
  be16 p.cover ++ be16 p.voltage ++
  [BitVec.ofNat 8 (p.sharePeriod.getD 0), p.lastSequence] ++ be16 p.age ++ [BitVec.ofNat 8 p.missed]

/-- READ PEER by station number (R127). -/
def State.readPeerResponse (s : State) (n : Nat) : Response :=
  if 15 < n then refusedRange 1
  else match findPeer s.peers n with
    | none => plainResponse .absent
    | some p => ⟨.done, p.report⟩

/-- READ_PEER (R127). -/
def execReadPeer (s : State) : Host.Outcome State Fault Refusal :=
  .next (match s.port.request with
    | some (.readPeer n) => s.takeConfigured fun _ => s.answer (s.readPeerResponse n)
    | _ => s)

/-- FORGET PEER by station number (R128). -/
def State.takeForgetPeer (s : State) (cfg : Configuration) (n : Nat) : State :=
  if 15 < n ∨ n = cfg.station then s.answer (refusedRange 1)
  else match findPeer s.peers n with
    | none => s.answer (refusedRange 1)
    | some p =>
      match p.status with
      | .fresh | .silent => s.answer (plainResponse .refusedState)
      | .lost => (s.acceptLeave n).answer (plainResponse .done)

/-- FORGET_PEER (R128). -/
def execForgetPeer (s : State) : Host.Outcome State Fault Refusal :=
  .next (match s.port.request with
    | some (.forgetPeer n) => s.takeConfigured fun cfg => s.takeForgetPeer cfg n
    | _ => s)

end Sys2Proof.Machine
end

