-- ==== Sys2Proof/Machine/Line.lean ====
section
/-! DEFINITION. The Share Line Interface (R78 to R92): the meanings of SEEKING_END, LINE_BUSY,
INTERFRAME_GAP_END, FRAME_ABANDONED, FRAME_RECEIVED, ACCESS_SLOT, FRAME_COMPLETED, COLLISION and
ALERT_EXPIRY. -/

namespace Sys2Proof.Machine

/-- R79: what LOAD CONFIG makes of the interface. -/
def ShareLine.activate (l : ShareLine) : ShareLine := { l with view := .seeking }

/-! ### Quiet and busy (R79, R80) -/

/-- The line becomes QUIET at an instant, and new access cycles begin (R79, R80, R81). -/
def ShareLine.quieten (l : ShareLine) (now : Micros) : ShareLine :=
  { l with view := .quiet, quietAt := some now, slotTaken := false }

/-- SEEKING_END (R79). -/
def execSeekingEnd (s : State) : Host.Outcome State Fault Refusal :=
  .next (if s.line.view = .seeking then s.setLine (s.line.quieten s.time) else s)

/-- The receiver takes the characters of other stations: the line view is QUIET or BUSY and the station is
not itself sending (R79, R80, R88, assumption 12). -/
def ShareLine.receiving (l : ShareLine) : Bool :=
  (decide (l.view = .quiet) || decide (l.view = .busy)) && l.transmission.isNone

/-- A frame under assembly with no character yet (R80). -/
def Assembly.begun : Assembly := ⟨[], false⟩

/-- LINE_BUSY: the first start bit of a frame (R80). -/
def execLineBusy (s : State) : Host.Outcome State Fault Refusal :=
  .next (if s.line.receiving ∧ s.line.assembly = none then
      s.setLine { s.line with view := .busy, assembly := some Assembly.begun }
    else s)

/-- INTERFRAME_GAP_END (R80). -/
def execInterframeGapEnd (s : State) : Host.Outcome State Fault Refusal :=
  .next (if s.line.view = .busy ∧ s.line.assembly = none ∧ s.line.transmission = none then
      s.setLine (s.line.quieten s.time)
    else s)

/-! ### Assembling frames (R78, R80) -/

/-- The body length that the fourth character of a frame gives (R80). -/
def assembledLength (bytes : List Byte) : Option Nat :=
  match bytes with
  | _ :: _ :: _ :: b3 :: _ => some b3.toNat
  | _ => none

/-- The length is one of the three of R80. -/
def validLength (n : Nat) : Bool := decide (n ∈ [0, 8, 16])

/-- A character joins the frame under assembly: its data bits are kept, and the frame is marked malformed by a
character error or by a fourth character that gives no valid length (R78, R80). -/
def Assembly.append (a : Assembly) (c : Character) : Assembly :=
  let bytes := a.bytes ++ [characterData c]
  { bytes := bytes
    malformed := a.malformed || characterError c ||
      (decide (bytes.length = 4) && !validLength (characterData c).toNat) }

/-- The frame has ended: complete by its length, or at its twenty-second character (R80). -/
def Assembly.ended (a : Assembly) : Bool :=
  match assembledLength a.bytes with
  | none => false
  | some n =>
    if validLength n then decide (6 + n ≤ a.bytes.length) else decide (22 ≤ a.bytes.length)

/-- One character is received; a frame it ends is handed to the filter and no longer under assembly (R80,
R89). -/
def State.receiveCharacter (s : State) (cfg : Configuration) (c : Character) : State :=
  let assembled := (s.line.assembly.getD Assembly.begun).append c
  if assembled.ended then
    (s.setLine { s.line with view := .busy, assembly := none }).filterFrame cfg assembled.bytes
      assembled.malformed
  else s.setLine { s.line with view := .busy, assembly := some assembled }

/-- Characters are received one after another. -/
def State.receiveCharacters (s : State) (cfg : Configuration) (cs : List Character) : State :=
  cs.foldl (fun acc c => acc.receiveCharacter cfg c) s

/-- FRAME_RECEIVED (R80, R102). -/
def execFrameReceived (characters : List Character) (s : State) : Host.Outcome State Fault Refusal :=
  .next (s.configured fun cfg => if s.line.receiving then s.receiveCharacters cfg characters else s)

/-- The frame under assembly is abandoned: it reaches the filter as malformed and the line is QUIET (R80). -/
def State.abandonFrame (s : State) (cfg : Configuration) (a : Assembly) : State :=
  (s.setLine (ShareLine.quieten { s.line with assembly := none } s.time)).filterFrame cfg a.bytes true

/-- FRAME_ABANDONED (R80). -/
def execFrameAbandoned (s : State) : Host.Outcome State Fault Refusal :=
  .next (s.configured fun cfg =>
    match s.line.assembly with
    | none => s
    | some a => if s.line.view = .busy then s.abandonFrame cfg a else s)

/-! ### Access (R81, R82) -/

/-- The microseconds into the present access cycle of 64 (R81). -/
def ShareLine.cycleTime (l : ShareLine) (now : Micros) : Option Nat :=
  l.quietAt.map fun q => (now - q).toNat % 64

/-- The station's alert slot begins (R81). -/
def ShareLine.atAlertSlot (l : ShareLine) (cfg : Configuration) (now : Micros) : Bool :=
  decide (l.view = .quiet) && decide (l.cycleTime now = some (2 * cfg.station))

/-- The station's SHARE slot begins (R81). -/
def ShareLine.atShareSlot (l : ShareLine) (cfg : Configuration) (now : Micros) : Bool :=
  decide (l.view = .quiet) && decide (l.cycleTime now = some (32 + 2 * cfg.station))

/-- The frame that starts in the slot that begins now, with the queue and slot it leaves (R81, R82). -/
def ShareLine.eligible (l : ShareLine) (cfg : Configuration) (now : Micros) : Option Body :=
  match l.alertQueue, l.shareSlot with
  | head :: _, _ => if l.atAlertSlot cfg now then some head.body else none
  | [], some share => if l.atShareSlot cfg now then some (.share share) else none
  | [], none => none

/-- A slot of the station begins at the present instant and has not been taken (R81). -/
def ShareLine.atOwnSlot (l : ShareLine) (cfg : Configuration) (now : Micros) : Bool :=
  l.transmission.isNone && !l.slotTaken && (l.atAlertSlot cfg now || l.atShareSlot cfg now)

/-- A frame starts: it leaves the queue or the slot, its sequence and flag are filled in, and the line is
BUSY (R82). -/
def ShareLine.startFrame (l : ShareLine) (cfg : Configuration) (body : Body) : ShareLine :=
  { l with
    view := .busy
    alertQueue := l.alertQueue.drop 1
    shareSlot := if l.alertQueue = [] then none else l.shareSlot
    transmission := some
      { station := cfg.station
        group := cfg.group
        first := l.firstFlag
        sequence := l.nextSequence
        body := body } }

/-- A slot of the station begins and a frame is eligible in it (R81, R82). -/
def State.slotDue (s : State) (cfg : Configuration) : Bool :=
  s.line.atOwnSlot cfg s.time && (s.line.eligible cfg s.time).isSome

/-- A slot of the station is taken: its frame starts, or nothing does and the station waits for its next slot,
whatever is queued later at the same instant (R81). -/
def ShareLine.takeSlot (l : ShareLine) (cfg : Configuration) (now : Micros) : ShareLine :=
  match l.eligible cfg now with
  | none => { l with slotTaken := true }
  | some body => { l.startFrame cfg body with slotTaken := true }

/-- ACCESS_SLOT (R81). -/
def execAccessSlot (s : State) : Host.Outcome State Fault Refusal :=
  .next (s.configured fun cfg =>
    if s.line.atOwnSlot cfg s.time then s.setLine (s.line.takeSlot cfg s.time) else s)

/-! ### Completion and collision (R87, R88) -/

/-- The frame in transmission is completed (R87). -/
def ShareLine.complete (l : ShareLine) : ShareLine :=
  { l with
    transmission := none
    nextSequence := l.nextSequence + 1
    firstFlag := false
    collisions := 0 }

/-- FRAME_COMPLETED (R87). -/
def execFrameCompleted (s : State) : Host.Outcome State Fault Refusal :=
  .next (if s.line.transmission.isSome then s.setLine s.line.complete else s)

/-- The characters a frame is sent as (R78, R82). -/
def sentCharacters (f : Frame) : List Character := f.bytes.map characterOf

/-- A received character counts as different from the one sent: its data differ, or it has a character error
(R87). -/
def readsDifferent (sent received : Character) : Bool :=
  decide (characterData received ≠ characterData sent) || characterError received

/-- The readback shows a collision: its last character is different and every one before it is equal
(R88). -/
def collides : List Character → List Character → Bool
  | sent :: _, [received] => readsDifferent sent received
  | sent :: sentRest, received :: rest => !readsDifferent sent received && collides sentRest rest
  | _, _ => false

/-- The frame is given up and the consecutive collision count rises, staying at 3 (R88). -/
def ShareLine.abort (l : ShareLine) : ShareLine :=
  { l with transmission := none, assembly := none, collisions := min 3 (l.collisions + 1) }

/-- A collision: COLLISION is counted, a count at 3 reports DUPLICATE_STATION, and the characters read back
begin a frame under assembly (R88, assumption 13). -/
def State.collide (s : State) (cfg : Configuration) (readback : List Character) : State :=
  let aborted := (s.setLine s.line.abort).count .collision
  let reported :=
    if aborted.line.collisions = 3 then aborted.trip cfg .duplicateStation else aborted
  reported.receiveCharacters cfg readback

/-- COLLISION (R88). -/
def execCollision (readback : List Character) (s : State) : Host.Outcome State Fault Refusal :=
  .next (s.configured fun cfg =>
    match s.line.transmission with
    | none => s
    | some f => if collides (sentCharacters f) readback then s.collide cfg readback else s)

/-! ### Expiry (R84) -/

/-- The head of the alert queue has waited 20 ms (R84). -/
def State.alertExpiryDue (s : State) : Bool :=
  match s.line.alertQueue with
  | [] => false
  | head :: _ => hasRun s.time head.queuedAt 20000

/-- ALERT_EXPIRY (R84). -/
def execAlertExpiry (s : State) : Host.Outcome State Fault Refusal :=
  .next (if s.alertExpiryDue then
      (s.setLine { s.line with alertQueue := s.line.alertQueue.drop 1 }).count .txDropped
    else s)

end Sys2Proof.Machine
end

