-- ==== Sys2Proof/Machine/Port.lean ====
section
/-! DEFINITION. The Supervisor Port (R184 to R196), the requests it owns and those of the Event Unit and the
Fault Record, and the resets: the meanings of TRANSFER_START, TRANSFER_END, LOAD_CONFIG, SET_DEMAND,
READ_STATUS, READ_EVENTS, ACK_EVENTS, READ_FAULT, PROTECTION_EDGE, POWER_ON_RESET, SRST and SRST_RELEASE. -/

namespace Sys2Proof.Machine

/-! ### Transfers (R187, R188, R195) -/

/-- What the part sends in a transfer that begins: the formed response, or NOT_READY with 1 or 0 (R187). -/
def SupervisorPort.chosen (p : SupervisorPort) : List Byte :=
  match p.response with
  | some r => r.bytes
  | none => (notReady p.request.isSome).bytes

/-- SCS is asserted (R187); while SRST is asserted the port takes no transfer and SDO sends bytes of 0 (R195), to the
end of that transfer by assumption 31. -/
def SupervisorPort.beginTransfer (p : SupervisorPort) : SupervisorPort :=
  if p.srstAsserted then { p with transfer := none, sdo := [] }
  else { p with transfer := some [], sdo := bitsOfBytes p.chosen, response := none }

/-- The level of SDO at bit `k` of the transfer in progress, from 0 and high when true; after the last byte of what the
part sends come bytes of 0 (R185, R187). -/
def SupervisorPort.sdoBit (p : SupervisorPort) (k : Nat) : Bool := p.sdo.getD k false

/-- TRANSFER_START (R187). A transfer already in progress cannot begin again (assumption 20). -/
def execTransferStart (s : State) : Host.Outcome State Fault Refusal :=
  .next (if s.port.transfer = none then s.setPort s.port.beginTransfer else s)

/-- The last checks of R188 on a message that is complete: known kind, configured part, allowed length. -/
def State.judgeComplete (s : State) (kind : Nat) (parameters : List Byte) : State :=
  if !knownKind kind then s.answer (plainResponse .unknownRequest)
  else if s.port.config = none ∧ kind ≠ 1 ∧ kind ≠ 3 then s.answer (plainResponse .refusedUnconfigured)
  else if !allowedLength kind parameters.length then s.answer (refusedRange 0)
  else s.setPort { s.port with request := requestOf kind parameters }

/-- The judgement of a message at the end of its transfer, its checks in the order of R188. DESIGN CHOICE where R188 says
two things (assumption 34): for a transfer that begins while a request is in progress and ends after its response has
formed, the table finds no request in progress at the end, and the prose below it has the transfer's request discarded.
The table decides here, by what holds at the end. -/
def State.judge (s : State) (message : List Byte) : State :=
  match message with
  | [] => s
  | kind :: rest =>
    if kind = 0#8 then s
    else if s.port.request.isSome then s
    else match rest with
      | [] => s.answer (refusedRange 0)
      | length :: parameters =>
        if parameters.length < length.toNat then s.answer (refusedRange 0)
        else s.judgeComplete kind.toNat (parameters.take length.toNat)

/-- TRANSFER_END (R187, R188). A discarded transfer is not judged (R195). -/
def execTransferEnd (sdi : List Bool) (s : State) : Host.Outcome State Fault Refusal :=
  .next (match s.port.transfer with
    | none => s
    | some received =>
      (s.setPort { s.port with transfer := none, sdo := [] }).judge (received ++ bytesOfBits sdi))

/-! ### LOAD CONFIG (R190, R192) -/

/-- The Protection Input Unit takes edges and actions; the levels stay (R170). -/
def takeInputs (inputs : Vector ProtectionInput 4) (cfg : Configuration) : Vector ProtectionInput 4 :=
  Vector.ofFn fun i : Fin 4 =>
    { inputs[i] with edge := cfg.inputs[i].1, action := cfg.inputs[i].2 }

/-- The Frame Filter takes number and group (R93). -/
def FrameFilter.activate (m : FrameFilter) (cfg : Configuration) : FrameFilter :=
  { m with station := some cfg.station, group := some cfg.group }

/-- The acceptance of a configuration, one event in which every block leaves its power-on state (R192, R3,
R31, R45, R61, R79, R93, R132, R152, R158, R170, R175). -/
def State.acceptConfiguration (s : State) (cfg : Configuration) (plant : PlantInputs) : State :=
  { s with
    station := { s.station with state := .off }
    tracker := s.tracker.activate cfg
    sampler := s.sampler.activate cfg s.time plant
    classifier := Classifier.activate
    line := s.line.activate
    filter := s.filter.activate cfg
    allocator := s.allocator.activate cfg s.time
    regulator := s.regulator.turnTo cfg cfg.alphaMax
    protection := takeInputs s.protection cfg
    events := s.events.takeClasses cfg.urgent
    port := { s.port with config := some cfg } }

/-- LOAD CONFIG with its parameters (R190). -/
def State.takeLoadConfig (s : State) (parameters : List Byte) (plant : PlantInputs) : State :=
  if parameters.length ≠ 115 then s.answer (refusedRange 0)
  else if s.port.config.isSome then s.answer (plainResponse .refusedState)
  else match configurationFault parameters with
    | some index => s.answer (refusedRange index)
    | none =>
      (s.acceptConfiguration (configurationOf parameters) plant).answer (plainResponse .done)

/-- LOAD_CONFIG (R190). -/
def execLoadConfig (plant : PlantInputs) (s : State) : Host.Outcome State Fault Refusal :=
  .next (match s.port.request with
    | some (.loadConfig parameters) => s.takeLoadConfig parameters plant
    | _ => s)

/-! ### SET DEMAND and READ STATUS (R193, R194) -/

/-- SET DEMAND with its value (R193, R134). -/
def State.takeSetDemand (s : State) (cfg : Configuration) (value : Nat) : State :=
  let stored := min value cfg.rating
  ((s.setAllocator (s.allocator.storeDemand s.station.state stored)).countIf (decide (cfg.rating < value))
    .demandClamped).answer ⟨.done, be16 stored⟩

/-- SET_DEMAND (R193). -/
def execSetDemand (s : State) : Host.Outcome State Fault Refusal :=
  .next (match s.port.request with
    | some (.setDemand value) => s.takeConfigured fun cfg => s.takeSetDemand cfg value
    | _ => s)

/-- The STOPPING destination in READ STATUS (R196). -/
def destinationCode : Option Destination → Nat
  | none => 0
  | some .off => 1
  | some .standby => 2

/-- The standby origin in READ STATUS (R196). -/
def originCode : Option StandbyOrigin → Nat
  | none => 0
  | some .request => 1
  | some .lowLoad => 2
  | some .protection => 3
  | some .escalation => 4
  | some .blockTimeout => 5

/-- The classifier state in READ STATUS and READ FAULT (R196). -/
def ClassifierState.code : ClassifierState → Nat
  | .inactive => 0
  | .normal => 1
  | .disturbed => 2
  | .outside => 3
  | .recovering => 4

/-- The tracker state in READ STATUS and READ FAULT (R196). -/
def TrackerState.code : TrackerState → Nat
  | .unlocked => 0
  | .acquiring => 1
  | .locked => 2

/-- The kind of a context record in READ STATUS (R196). -/
def DisturbanceKind.code : DisturbanceKind → Nat
  | .sag => 1
  | .phase => 2
  | .frequency => 3
  | .sync => 4

/-- The kind byte of a record that may be missing: 0 for no record (R196). -/
def recordCode : Option ContextRecord → Nat
  | none => 0
  | some record => record.kind.code

/-- The temperature as two bytes: -32,768 when absent (R196). -/
def sinkBytes (sink : Option Int) : List Byte := be16Signed (sink.getD (-32768))

/-- The 64 data bytes of READ STATUS (R194, R196). -/
def State.statusReport (s : State) : List Byte :=
  [BitVec.ofNat 8 s.station.state.code, BitVec.ofNat 8 (destinationCode s.station.destination),
   BitVec.ofNat 8 (originCode s.station.standbyOrigin), BitVec.ofNat 8 s.classifier.state.code,
   s.classifier.active.toByte, BitVec.ofNat 8 s.tracker.state.code] ++
  be16 s.allocator.demand ++ be16 s.allocator.setpoint ++ be16 s.sampler.figures.current ++
  be16 s.sampler.figures.capability ++ be16 s.allocator.shortfall ++ be16 s.allocator.headroom ++
  be16 s.allocator.cover ++ be16 s.allocator.target ++
  be16 s.regulator.lastAngle ++ be16 s.sampler.figures.voltage ++ be16 s.sampler.figures.dcVoltage ++
  sinkBytes s.sampler.figures.sink ++ be16 s.tracker.figure ++
  [BitVec.ofNat 8 s.station.stack.length, BitVec.ofNat 8 (recordCode s.station.stack.head?),
   BitVec.ofNat 8 (recordCode s.station.stack.getLast?)] ++
  be32 s.allocator.shortfallSum ++ be32 s.allocator.headroomSum ++ be32 s.allocator.groupDelivered ++
  [BitVec.ofNat 8 (countStatus s.peers .fresh), BitVec.ofNat 8 (countStatus s.peers .silent),
   BitVec.ofNat 8 (countStatus s.peers .lost)] ++
  be16 s.filter.accepted.toNat ++ be16 s.filter.checkErrors.toNat ++ be16 s.filter.otherGroup.toNat ++
  be16 s.filter.duplicate.toNat ++ be16 s.filter.stale.toNat ++
  [BitVec.ofNat 8 s.line.highWater] ++ s.events.pendingSummary

/-- The high-water mark set to the number of frames the queue holds (R85, R91). -/
def ShareLine.resetMark (l : ShareLine) : ShareLine := { l with highWater := l.alertQueue.length }

/-- READ_STATUS: the report of one instant, then the mark (R194). -/
def execReadStatus (s : State) : Host.Outcome State Fault Refusal :=
  .next (if s.requested .readStatus then
      (s.setLine s.line.resetMark).answer ⟨.done, s.statusReport⟩
    else s)

/-! ### READ EVENTS and ACK EVENTS (R176, R177) -/

/-- The 27 data bytes of READ EVENTS (R196). -/
def EventUnit.report (e : EventUnit) : List Byte :=
  (e.counters.toList.map fun n => BitVec.ofNat 8 n) ++ e.overflowMap

/-- READ_EVENTS (R176). -/
def execReadEvents (s : State) : Host.Outcome State Fault Refusal :=
  .next (if s.requested .readEvents then s.takeConfigured fun _ => s.answer ⟨.done, s.events.report⟩ else s)

/-- The field index of the first pair, in list order, whose kind is outside 1 to 24 or repeats an earlier
one: the kind of pair i is field 2i - 1 (R177, assumption 30). -/
def acknowledgeFault (field : Nat) (earlier : List Nat) : List (Nat × Nat) → Option Nat
  | [] => none
  | pair :: rest =>
    if pair.1 < 1 ∨ 24 < pair.1 ∨ pair.1 ∈ earlier then some field
    else acknowledgeFault (field + 2) (pair.1 :: earlier) rest

/-- ACK EVENTS with its pairs (R177). -/
def State.takeAckEvents (s : State) (pairs : List (Nat × Nat)) : State :=
  match acknowledgeFault 1 [] pairs with
  | some field => s.answer (refusedRange field)
  | none => (s.setEvents (s.events.acknowledge pairs)).answer (plainResponse .done)

/-- ACK_EVENTS (R177). -/
def execAckEvents (s : State) : Host.Outcome State Fault Refusal :=
  .next (match s.port.request with
    | some (.ackEvents pairs) => s.takeConfigured fun _ => s.takeAckEvents pairs
    | _ => s)

/-! ### READ FAULT (R182) -/

/-- The cause codes of READ FAULT (R196). -/
def TripCause.code : TripCause → Nat
  | .protection n => n.val
  | .dcOvercurrent => 4
  | .overTemperature => 5
  | .duplicateStation => 6

/-- The 17 data bytes of READ FAULT (R196). -/
def TripPicture.report (p : TripPicture) (laterTrips : Nat) : List Byte :=
  [BitVec.ofNat 8 p.cause.code, BitVec.ofNat 8 p.stateBefore.code] ++ be16 p.setpoint ++ be16 p.current ++
  be16 p.voltage ++ be16 p.lastAngle ++ sinkBytes p.sink ++
  [BitVec.ofNat 8 p.contextDepth, BitVec.ofNat 8 p.tracker.code, BitVec.ofNat 8 p.classifier.code,
   BitVec.ofNat 8 p.freshPeers, BitVec.ofNat 8 laterTrips]

/-- The answer of READ FAULT (R182). -/
def FaultRecord.response (f : FaultRecord) : Response :=
  match f.picture with
  | none => plainResponse .noRecord
  | some p => ⟨.done, p.report f.laterTrips⟩

/-- READ_FAULT (R182). -/
def execReadFault (s : State) : Host.Outcome State Fault Refusal :=
  .next (if s.requested .readFault then s.takeConfigured fun _ => s.answer s.fault.response else s)

/-! ### Protection inputs (R170, R171) -/

/-- The edge between two samples matches the configured edge (R171). -/
def edgeMatches (edge : ProtectionEdge) (before after : Bool) : Bool :=
  match edge with
  | .off => false
  | .rising => !before && after
  | .falling => before && !after
  | .both => before != after

/-- The action of a matching edge (R171). -/
def State.protectionAction (s : State) (cfg : Configuration) (n : Fin 4) : ProtectionAction → State
  | .trip => s.trip cfg (.protection n)
  | .standby => s.protectionStandby cfg
  | .report => s.count .protectionReport

/-- The sample becomes the input's level, and is the one of its microsecond (R170). -/
def State.sampleInput (s : State) (n : Fin 4) (level : Bool) : State :=
  s.setProtection (s.protection.set n { s.protection[n] with level := level, sampled := true })

/-- A sample is taken and its edge acts: the level is taken in every state; a matching edge acts in a configured part
(R170, R171). -/
def State.takeSample (s : State) (n : Fin 4) (level : Bool) : State :=
  (s.sampleInput n level).configured fun cfg =>
    if edgeMatches s.protection[n].edge s.protection[n].level level then
      (s.sampleInput n level).protectionAction cfg n s.protection[n].action
    else s.sampleInput n level

/-- PROTECTION_EDGE (R170, R171). An input is sampled once every microsecond: a level that comes when the sample of this
one has been taken falls between two samples and is not seen (assumption 24). -/
def execProtectionEdge (n : Fin 4) (level : Bool) (s : State) : Host.Outcome State Fault Refusal :=
  .next (if s.protection[n].sampled then s else s.takeSample n level)

/-! ### Resets -/

/-- POWER_ON_RESET: every block takes its power-on values (R2, R31, R44, R61, R79, R93, R110, R131, R152, R158,
R170, R179, R183, R186). The queue is not the part's, and the level of the SRST line is the host's: while it is
asserted R195 goes on holding (assumption 21). -/
def execPowerOnReset (s : State) : Host.Outcome State Fault Refusal :=
  .next ((State.reset.setPending s.pending).setPort
    { SupervisorPort.reset with srstAsserted := s.port.srstAsserted })

/-- SRST at the port (R195). What SDO carries is dropped with the transfer, and if SRST is released before SCS is
deasserted SDO goes on with bytes of 0: DESIGN CHOICE, the spec is silent there (assumption 31). -/
def SupervisorPort.supervisorReset (p : SupervisorPort) : SupervisorPort :=
  { p with transfer := none, request := none, response := none, sdo := [], srstAsserted := true }

/-- SRST at the filter: the five counters 0, number and group kept (R94). -/
def FrameFilter.zero (m : FrameFilter) : FrameFilter :=
  { m with accepted := 0, checkErrors := 0, otherGroup := 0, duplicate := 0, stale := 0 }

/-- D 0 and no pending demand (R133). -/
def Allocator.dropDemand (a : Allocator) : Allocator := { a with demand := 0, pendingDemand := none }

/-- SRST at the Station Controller and the allocator (R28, R133). -/
def State.resetStation (s : State) (cfg : Configuration) : State :=
  match s.station.state with
  | .unconfigured | .tripped => s
  | .off => s.setAllocator s.allocator.dropDemand
  | .syncing | .starting | .run | .ride | .blocked | .restart | .stopping | .standby =>
    (((s.setAllocator s.allocator.dropDemand).enter cfg .off).emptyStack)

/-- SRST as a whole: counters and statistics zeroed, the port cleared, then the station's own move, then the
mark (R28, R91, R94, R133, R179, R195). -/
def State.supervisorReset (s : State) : State :=
  let zeroed := ((s.setPort s.port.supervisorReset).setEvents s.events.zero).setFilter s.filter.zero
  let moved := zeroed.configured fun cfg => zeroed.resetStation cfg
  moved.setLine moved.line.resetMark

/-- SRST (R28). -/
def execSrst (s : State) : Host.Outcome State Fault Refusal := .next s.supervisorReset

/-- SRST_RELEASE (R195). -/
def execSrstRelease (s : State) : Host.Outcome State Fault Refusal :=
  .next (s.setPort { s.port with srstAsserted := false })

end Sys2Proof.Machine
end

