-- ==== Sys2Proof/Machine/Due.lean ====
section
/-! DEFINITION. What passes when no command waits: one microsecond, unless a timed command is due and has
not been taken (assumptions 1 and 2). -/

namespace Sys2Proof.Machine

/-- The conditions under which one of the part's own timed events has come about and its command has not yet
been taken. -/
def State.dueConditions (s : State) (cfg : Configuration) : List Bool :=
  [s.lossDue, s.boundaryDue, s.freeBoundaryDue, s.sampleDue, s.confirmDue cfg, s.frequencyTimerDue cfg,
   s.blockedTimerDue cfg, s.lowLoadDue cfg, s.shareDue, s.firingDue,
   (List.finRange 6).any fun g => s.pulseEndDue g,
   s.alertExpiryDue, s.slotDue cfg,
   (List.finRange 16).any fun n => s.silentDue cfg n,
   (List.finRange 16).any fun n => s.lostDue cfg n]

/-- A timed event of the part is due. -/
def State.eventDue (s : State) : Bool :=
  match s.port.config with
  | none => false
  | some cfg => (s.dueConditions cfg).any id

/-- What a step does on an empty queue: a microsecond passes, but not past an event that is due. -/
def State.idle (s : State) : State := if s.eventDue then s else s.elapse 1

end Sys2Proof.Machine
end

