-- ==== Sys2Proof/Machine/Dispatch.lean ====
section
/-! DEFINITION. Which meaning each command has. -/

namespace Sys2Proof.Machine

def exec (i : Instr) (s : State) : Host.Outcome State Fault Refusal :=
  match i with
  | .powerOnReset => Sys2Proof.Machine.execPowerOnReset s
  | .srst => Sys2Proof.Machine.execSrst s
  | .transferStart => Sys2Proof.Machine.execTransferStart s
  | .transferEnd sdi => Sys2Proof.Machine.execTransferEnd sdi s
  | .loadConfig plant => Sys2Proof.Machine.execLoadConfig plant s
  | .setDemand => Sys2Proof.Machine.execSetDemand s
  | .readStatus => Sys2Proof.Machine.execReadStatus s
  | .start => Sys2Proof.Machine.execStart s
  | .stop => Sys2Proof.Machine.execStop s
  | .standby => Sys2Proof.Machine.execStandby s
  | .clearFault => Sys2Proof.Machine.execClearFault s
  | .readPeer => Sys2Proof.Machine.execReadPeer s
  | .forgetPeer => Sys2Proof.Machine.execForgetPeer s
  | .readEvents => Sys2Proof.Machine.execReadEvents s
  | .ackEvents => Sys2Proof.Machine.execAckEvents s
  | .readFault => Sys2Proof.Machine.execReadFault s
  | .capture => Sys2Proof.Machine.execCapture s
  | .lossOfSync => Sys2Proof.Machine.execLossOfSync s
  | .sectorBoundary plant order => Sys2Proof.Machine.execSectorBoundary plant order s
  | .freeRunningBoundary plant order => Sys2Proof.Machine.execFreeRunningBoundary plant order s
  | .sample plant => Sys2Proof.Machine.execSample plant s
  | .recoveryConfirmTimerExpiry => Sys2Proof.Machine.execRecoveryConfirmTimerExpiry s
  | .frequencyTimerExpiry => Sys2Proof.Machine.execFrequencyTimerExpiry s
  | .blockedTimerExpiry => Sys2Proof.Machine.execBlockedTimerExpiry s
  | .lowLoadTimerExpiry => Sys2Proof.Machine.execLowLoadTimerExpiry s
  | .shareUpdate => Sys2Proof.Machine.execShareUpdate s
  | .protectionEdge n level => Sys2Proof.Machine.execProtectionEdge n level s
  | .firing => Sys2Proof.Machine.execFiring s
  | .pulseEnd g => Sys2Proof.Machine.execPulseEnd g s
  | .seekingEnd => Sys2Proof.Machine.execSeekingEnd s
  | .lineBusy => Sys2Proof.Machine.execLineBusy s
  | .interframeGapEnd => Sys2Proof.Machine.execInterframeGapEnd s
  | .frameAbandoned => Sys2Proof.Machine.execFrameAbandoned s
  | .frameReceived characters => Sys2Proof.Machine.execFrameReceived characters s
  | .accessSlot => Sys2Proof.Machine.execAccessSlot s
  | .frameCompleted => Sys2Proof.Machine.execFrameCompleted s
  | .collision readback => Sys2Proof.Machine.execCollision readback s
  | .alertExpiry => Sys2Proof.Machine.execAlertExpiry s
  | .peerSilent n => Sys2Proof.Machine.execPeerSilent n s
  | .peerLost n => Sys2Proof.Machine.execPeerLost n s
  | .srstRelease => Sys2Proof.Machine.execSrstRelease s

end Sys2Proof.Machine
end

