-- ==== Sys2Proof/Safety.lean ====
section
/-! DEFINITION. What a sound state of the part is, block by block: the properties that the spec's rules state
of every moment, as decidable predicates. No step leaves them, and the state after reset has them. -/

namespace Sys2Proof.Machine

/-! ### Events (R174, R175) -/

/-- Every counter lies in 0 to 255, and each attention line is asserted exactly when some kind of its class has
a count above 0 (R174, R175). -/
abbrev EventUnit.Sound (e : EventUnit) : Prop :=
  (∀ i : Fin 24, e.counters[i] ≤ 255) ∧
  (e.attnU = true ↔ ∃ i : Fin 24, e.urgent[i] = true ∧ 0 < e.counters[i]) ∧
  (e.attnR = true ↔ ∃ i : Fin 24, e.urgent[i] = false ∧ 0 < e.counters[i])

/-! ### Station Controller (R4, R5, R13, R20, R24) -/

/-- The states in which the context stack holds at least one record (R13). -/
def StationState.holdsRecords : StationState → Bool
  | .ride | .blocked | .restart => true
  | .unconfigured | .off | .syncing | .starting | .run | .stopping | .standby | .tripped => false

/-- The stack holds at most 2 records, at least 1 in RIDE, BLOCKED and RESTART and none elsewhere (R13). -/
abbrev Station.StackFits (st : Station) : Prop :=
  st.stack.length ≤ 2 ∧ (1 ≤ st.stack.length ↔ st.state.holdsRecords = true)

/-- Destination and STOPPING origin are held only while STOPPING, the origin with destination STANDBY alone;
the standby origin is held exactly in STANDBY (section 1.1, R5); the low-load timer runs exactly in RUN and the
BLOCKED timer exactly in BLOCKED (R20, R24). -/
abbrev Station.HeldWhereUsed (st : Station) : Prop :=
  (st.destination ≠ none ↔ st.state = .stopping) ∧
  (st.stoppingOrigin ≠ none ↔ st.destination = some .standby) ∧
  (st.standbyOrigin ≠ none ↔ st.state = .standby) ∧
  (st.lowLoadRunning = true ↔ st.state = .run) ∧
  (st.state ≠ .run → st.lowLoadMs = 0) ∧
  (st.blockedSince ≠ none ↔ st.state = .blocked)

/-! ### Configuration (R2, R3, R44, R61, R79, R93, R190, R192) -/

/-- The part is UNCONFIGURED, and its blocks inactive, exactly while it holds no configuration; a configuration
held has passed every range check, and the filter holds its station number and group. -/
abbrev State.ConfigurationSound (s : State) : Prop :=
  (∀ cfg ∈ s.port.config, configurationInRange cfg = true) ∧
  (s.station.state = .unconfigured ↔ s.port.config = none) ∧
  (s.sampler.mode = .idle ↔ s.port.config = none) ∧
  (s.classifier.state = .inactive ↔ s.port.config = none) ∧
  (s.line.view = .inactive ↔ s.port.config = none) ∧
  s.filter.station = s.port.config.map Configuration.station ∧
  s.filter.group = s.port.config.map Configuration.group

/-! ### Grid Phase Tracker (R31 to R38, R43, R49, R50) -/

/-- An interval between 0.8 and 1.25 of a nominal line period (R30). -/
abbrev PlausibleInterval (cfg : Configuration) (x : Nat) : Prop :=
  4 * nominalPeriod cfg ≤ 5 * x ∧ 4 * x ≤ 5 * nominalPeriod cfg

/-- What the tracker holds in each of its states, that every interval it holds is plausible, that it is UNLOCKED
without a configuration, and that the Sampling Unit is in TRACKED timing exactly while the tracker is LOCKED. -/
abbrev State.TrackerSound (s : State) : Prop :=
  (s.port.config = none → s.tracker.state = .unlocked) ∧
  (s.tracker.state = .unlocked → s.tracker.intervals = [] ∧ s.tracker.anchor = none) ∧
  (s.tracker.state = .acquiring → s.tracker.anchor ≠ none ∧ s.tracker.acquired ≤ 3) ∧
  (s.tracker.state = .locked →
    s.tracker.anchor ≠ none ∧ s.tracker.next ≠ none ∧ s.tracker.deadline ≠ none ∧
    s.tracker.acquired = 4 ∧ s.tracker.period = s.tracker.intervals.sum / 4) ∧
  (s.tracker.state ≠ .locked → s.tracker.next = none ∧ s.tracker.deadline = none) ∧
  s.tracker.intervals.length = s.tracker.acquired ∧
  (∀ cfg ∈ s.port.config, ∀ x ∈ s.tracker.intervals, PlausibleInterval cfg x) ∧
  (s.sampler.mode = .tracked ↔ s.tracker.state = .locked)

/-! ### Sampling Unit (R46, R47, R51, R52, R55) -/

/-- A line window holds 96 samples of -2047 to 2047 (R47). -/
abbrev WindowSound (w : List Int) : Prop := w.length = 96 ∧ ∀ x ∈ w, -2047 ≤ x ∧ x ≤ 2047

/-- The windows hold one cycle, a sector in progress holds 1 to 16 samples, the cycle count stays below 6, and
v, the least of the three line figures, is at most 1500 (R46, R47, R51, R52). -/
abbrev Sampler.Sound (m : Sampler) : Prop :=
  WindowSound m.windowAB ∧ WindowSound m.windowBC ∧ WindowSound m.windowCA ∧
  (∀ x ∈ m.sector, 1 ≤ x.count ∧ x.count ≤ 16) ∧
  m.cycle < 6 ∧
  m.figures.voltage = min m.figures.lineAB (min m.figures.lineBC m.figures.lineCA) ∧
  m.figures.lineAB ≤ 1500 ∧ m.figures.lineBC ≤ 1500 ∧ m.figures.lineCA ≤ 1500

/-! ### Disturbance Classifier (R61, R63 to R75) -/

/-- A disturbance in progress has a kind, an onset time and an elapsed count, and outside one there is none; the
confirm timer runs exactly in RECOVERING and the frequency timer exactly in DISTURBED with FREQUENCY in the set;
the out-of-band count is at most 3 (R61, R64, R65, R71, R72, R73, R75). -/
abbrev Classifier.Sound (c : Classifier) : Prop :=
  (c.state = .inactive ∨ c.state = .normal ↔ c.active = ActiveSet.empty) ∧
  (c.state = .inactive ∨ c.state = .normal ↔ c.onset = none) ∧
  (c.state = .inactive ∨ c.state = .normal ↔ c.elapsed = none) ∧
  (c.confirm ≠ none ↔ c.state = .recovering) ∧
  (c.frequencyTimer ≠ none ↔ c.state = .disturbed ∧ c.active.frequency = true) ∧
  c.outOfBand ≤ 3

/-! ### Share Line Interface (R79, R83, R85, R88, R90) -/

/-- The alert queue holds at most 4 frames, the high-water mark lies between the queue's length and 4, and the
collision count is at most 3 (R83, R85, R88). -/
abbrev ShareLine.Sound (l : ShareLine) : Prop :=
  l.alertQueue.length ≤ 4 ∧ l.alertQueue.length ≤ l.highWater ∧ l.highWater ≤ 4 ∧ l.collisions ≤ 3

/-- While the part is UNCONFIGURED nothing waits and nothing is sent; in OFF the share slot is empty and only a
LEAVE can wait (R90). -/
abbrev State.SendsByState (s : State) : Prop :=
  (s.station.state = .unconfigured →
    s.line.alertQueue = [] ∧ s.line.shareSlot = none ∧ s.line.transmission = none) ∧
  (s.station.state = .off →
    s.line.shareSlot = none ∧ s.line.alertQueue.length ≤ 1 ∧ ∀ q ∈ s.line.alertQueue, q.body = .leave)

/-! ### Peer Table (R109, R119) -/

/-- Each field of an entry lies in the range of R109: a station number of 4 bits, a state code of 1 to 9, a
voltage of at most 1500, the other reported figures of 16 bits, a share period of 2 to 20 ticks or none, an age
of at most 65535 and a missed count of at most 255. -/
abbrev Peer.Sound (p : Peer) : Prop :=
  p.station ≤ 15 ∧ (1 ≤ p.lastState ∧ p.lastState ≤ 9) ∧ p.voltage ≤ 1500 ∧ p.demand ≤ 65535 ∧
  p.delivered ≤ 65535 ∧ p.capability ≤ 65535 ∧ p.shortfall ≤ 65535 ∧ p.headroom ≤ 65535 ∧ p.cover ≤ 65535 ∧
  (∀ x ∈ p.sharePeriod, 2 ≤ x ∧ x ≤ 20) ∧ p.age ≤ 65535 ∧ p.missed ≤ 255

/-- At most one entry per station number, never the own one, never more than 15, in ascending order, each field
within its range; no entry without a configuration (R109, R110). -/
abbrev State.PeersSound (s : State) : Prop :=
  s.peers.Pairwise (fun p q => p.station < q.station) ∧
  (∀ p ∈ s.peers, p.Sound ∧ some p.station ≠ s.filter.station) ∧
  s.peers.length ≤ 15 ∧
  (s.port.config = none → s.peers = [])

/-! ### Cover Allocator (R140, R148) -/

/-- The figure set the allocator last received is the Sampling Unit's latest (R148). -/
abbrev State.FiguresShared (s : State) : Prop :=
  s.allocator.latestC = s.sampler.figures.capability ∧
  s.allocator.latestI = s.sampler.figures.current ∧
  s.allocator.latestDcLimit = s.sampler.dcLimit

/-- SP never exceeds C, C never exceeds the rating and is 0 without a configuration, and SP is 0 outside the firing
states (R44, R148). -/
abbrev State.SetpointSound (s : State) : Prop :=
  s.allocator.setpoint ≤ s.sampler.figures.capability ∧
  (s.port.config = none → s.sampler.figures.capability = 0) ∧
  (∀ cfg ∈ s.port.config, s.sampler.figures.capability ≤ cfg.rating) ∧
  (s.station.state.firing = false → s.allocator.setpoint = 0)

/-- c never exceeds H, H never exceeds L, and both are 0 in every state other than RUN (R140). -/
abbrev State.CoverSound (s : State) : Prop :=
  s.allocator.cover ≤ s.allocator.headroom ∧
  (∀ cfg ∈ s.port.config, s.allocator.headroom ≤ cfg.coverLimit) ∧
  (s.station.state ≠ .run → s.allocator.headroom = 0 ∧ s.allocator.cover = 0)

/-- The demand and a pending one are at most the rating, I_meas is at most I_fs, and the current sum is that of the
samples taken; without a configuration all are 0 (section 8.1, R53, R101). -/
abbrev State.DemandSound (s : State) : Prop :=
  (∀ cfg ∈ s.port.config,
    s.allocator.demand ≤ cfg.rating ∧ (∀ d ∈ s.allocator.pendingDemand, d ≤ cfg.rating) ∧
    s.sampler.figures.current ≤ cfg.currentFullScale) ∧
  (∀ x ∈ s.sampler.sector, s.sampler.currentSum ≤ 4095 * x.count) ∧
  (s.port.config = none →
    s.allocator.demand = 0 ∧ s.allocator.pendingDemand = none ∧ s.sampler.figures.current = 0)

/-- Every frame that waits or is being sent lies within the ranges of the layout table (R95, R101). -/
abbrev State.FramesInRange (s : State) : Prop :=
  (∀ q ∈ s.line.alertQueue, q.body.inRange = true) ∧
  (∀ b ∈ s.line.shareSlot, (Body.share b).inRange = true) ∧
  (∀ f ∈ s.line.transmission, f.inRange = true)

/-! ### Angle Regulator and Gate Pulse Generator (R151, R155, R162, R163, R165) -/

/-- An integrator value within the configured limit (R155). -/
abbrev WithinLimit (cfg : Configuration) (x : Int) : Prop :=
  -(cfg.integratorLimit : Int) ≤ x ∧ x ≤ cfg.integratorLimit

/-- The integrator and every saved one lie within the limit, the last output angle within alpha_min and
alpha_max with its clamp side, and so does a latched angle; without a configuration the integrator is 0 and no
angle is latched (R13, R151, R152, R155, R158, R162). -/
abbrev State.AnglesSound (s : State) : Prop :=
  (s.port.config = none → s.regulator.integrator = 0 ∧ s.gates.latched = none) ∧
  ∀ cfg ∈ s.port.config,
    WithinLimit cfg s.regulator.integrator ∧
    (∀ r ∈ s.station.stack, WithinLimit cfg r.integrator) ∧
    cfg.alphaMin ≤ s.regulator.lastAngle ∧ s.regulator.lastAngle ≤ cfg.alphaMax ∧
    s.regulator.clampSide = clampSideOf cfg s.regulator.lastAngle ∧
    (∀ a ∈ s.gates.latched, cfg.alphaMin ≤ a ∧ a ≤ cfg.alphaMax)

/-- An output is asserted or a firing waits. -/
abbrev Gates.Active (g : Gates) : Prop := g.firings ≠ [] ∨ ∃ n : Fin 6, g.outputs[n] ≠ none

/-- The list holds at most 3 firings, an INHIBITED generator holds none and asserts nothing, an ENABLED one has
a latched angle and its station is in a firing state, and pulses are given or due only while the tracker is
LOCKED (R159, R162, R163, R165). -/
abbrev State.GatesSound (s : State) : Prop :=
  s.gates.firings.length ≤ 3 ∧
  (s.gates.mode = .inhibited → ¬ s.gates.Active) ∧
  (s.gates.mode = .enabled → s.station.state.firing = true ∧ s.gates.latched ≠ none) ∧
  (s.gates.Active → s.tracker.state = .locked)

/-! ### Fault Record (R180, R181) -/

/-- The record is valid exactly while the station is TRIPPED, with a later-trip count of at most 255 (R181). -/
abbrev State.FaultSound (s : State) : Prop :=
  (s.fault.picture ≠ none ↔ s.station.state = .tripped) ∧
  s.fault.laterTrips ≤ 255 ∧
  (s.fault.picture = none → s.fault.laterTrips = 0)

end Sys2Proof.Machine
end

