-- ==== Sys2Proof/Certificates/Slice0/Obligations.lean ====
section
/-! DEFINITION. The statements for the provers. The helpers of the first part write out, from the spec's tables,
what several statements share; they call no operation of the model. -/

open Sys2Proof Sys2Proof.Machine

namespace Sys2Proof.Machine

/-! ### What the statements share -/

/-- A configured part whose request in progress is `r`; a configuration held has passed its check (R190). -/
abbrev Asked (s : State) (cfg : Configuration) (r : Request) : Prop :=
  s.port.config = some cfg ∧ configurationInRange cfg = true ∧ s.port.request = some r

/-- A response is formed and the request in progress is none (R188). -/
def answered (s : State) (code : ResponseCode) (data : List Byte) : State :=
  { s with port := { s.port with request := none, response := some ⟨code, data⟩ } }

/-- The controller after an entry into `dest` at `now` that leaves no record, destination or origin (R4, R13,
R20, R24). -/
def enteredStation (dest : StationState) (now : Micros) : Station where
  state := dest
  stack := []
  destination := none
  stoppingOrigin := none
  standbyOrigin := none
  lowLoadRunning := decide (dest = .run)
  lowLoadMs := 0
  blockedSince := if dest = .blocked then some now else none

/-- H and c at departure from `left`: 0 when that was RUN, else kept (R140). -/
def departedAllocator (a : Allocator) (left : StationState) : Allocator :=
  { a with
    headroom := if left = .run then 0 else a.headroom
    cover := if left = .run then 0 else a.cover }

/-- The block of R165: INHIBITED, an empty list, every output deasserted, the latched angle kept. -/
def blockedGates (g : Gates) : Gates :=
  { g with mode := .inhibited, firings := [], outputs := Vector.replicate 6 none }

/-- Entry into OFF from a sending state (R4, R7, R140, R147, R153). -/
def offFrom (s : State) (cfg : Configuration) : State :=
  { s with
    station := enteredStation .off s.time
    allocator :=
      { departedAllocator s.allocator s.station.state with
        setpoint := 0, target := 0, shortfall := 0, shortfallSum := 0, headroomSum := 0
        groupDelivered := 0, lastUpdate := none }
    regulator := { integrator := 0, lastAngle := cfg.alphaMax, clampSide := .high }
    gates := blockedGates s.gates
    line :=
      { s.line with
        alertQueue := [⟨.leave, s.time⟩], shareSlot := none, highWater := max s.line.highWater 1 } }

/-- Entry into a blocked state other than OFF, from a state other than OFF, that leaves no record (R4, R140,
R147, R153). -/
def blockedFrom (s : State) (dest : StationState) : State :=
  { s with
    station := enteredStation dest s.time
    allocator := { departedAllocator s.allocator s.station.state with setpoint := 0 }
    gates := blockedGates s.gates }

/-- Entry into STANDBY, which records its origin (R5). -/
def standbyFrom (s : State) (origin : StandbyOrigin) : State :=
  { blockedFrom s .standby with
    station := { enteredStation .standby s.time with standbyOrigin := some origin } }

/-- Entry into STOPPING: no command to the neighbours (R4, R21, R22, R24). -/
def stoppingFrom (s : State) (destination : Destination) (origin : Option StoppingOrigin) : State :=
  { s with
    station :=
      { enteredStation .stopping s.time with destination := some destination, stoppingOrigin := origin }
    allocator := departedAllocator s.allocator s.station.state }

/-- One occurrence of each kind is counted, one after another (R174). -/
def counted (s : State) (kinds : List EventKind) : State :=
  { s with events := kinds.foldl EventUnit.count s.events }

/-- An ALERT joins the end of the alert queue, or is dropped with TX_DROPPED when 4 frames wait (R83, R85). -/
def alerted (s : State) (alert : AlertBody) : State :=
  if s.line.alertQueue.length < 4 then
    { s with
      line :=
        { s.line with
          alertQueue := s.line.alertQueue ++ [⟨.alert alert, s.time⟩]
          highWater := max s.line.highWater (s.line.alertQueue.length + 1) } }
  else counted s [.txDropped]

/-- The ALERT of R6 for a state entered, with the latest v and C. -/
def alertOf (s : State) (kind : AlertKind) (code shortfall : Nat) : AlertBody where
  kind := kind
  stateCode := code
  voltage := s.sampler.figures.voltage
  capability := s.sampler.figures.capability
  shortfall := shortfall

/-! What a transition of the classifier does to the station. The effects hold with a stack that fits the state. In
states that no run reaches (a transition that is no onset, in RUN or RESTART) they are the model's choice
(assumption 18). -/

/-- The first kind in the order SAG, PHASE, FREQUENCY, SYNC (R13). -/
def firstKindOf (a : ActiveSet) : DisturbanceKind :=
  match a with
  | ⟨true, _, _, _⟩ => .sag
  | ⟨false, true, _, _⟩ => .phase
  | ⟨false, false, true, _⟩ => .frequency
  | ⟨false, false, false, _⟩ => .sync

/-- Departure from OFF at the Share Line Interface: a waiting LEAVE is removed, the next sequence is 0 and the flag is
armed (R8). -/
def departedOff (s : State) : State :=
  { s with
    line := { s.line with
      alertQueue := s.line.alertQueue.filter fun q => decide (q.body ≠ .leave)
      nextSequence := 0
      firstFlag := true } }

/-- Entry into RIDE with a record pushed and ALERT ONSET (R6, R13, R14, R18). -/
def rideFrom (s : State) (record : ContextRecord) : State :=
  alerted { s with
      station := { enteredStation .ride s.time with stack := s.station.stack ++ [record] }
      allocator := departedAllocator s.allocator s.station.state }
    (alertOf s .onset 4
      (s.allocator.demand -
        min (min s.allocator.setpoint s.sampler.figures.capability) s.allocator.demand))

/-- Entry into BLOCKED with the stack it holds there and ALERT BLOCK (R4, R6, R14, R15, R18). -/
def blockedWith (s : State) (stack : List ContextRecord) : State :=
  alerted { blockedFrom s .blocked with station := { enteredStation .blocked s.time with stack := stack } }
    (alertOf s .block 5 s.allocator.demand)

/-- Entry into STARTING (R4, R10, R153, R159). -/
def startedFrom (s : State) (cfg : Configuration) : State :=
  { s with
    station := enteredStation .starting s.time
    allocator := { s.allocator with setpoint := 0 }
    regulator := { integrator := 0, lastAngle := cfg.alphaMax, clampSide := .high }
    gates := { s.gates with mode := .enabled, latched := some cfg.alphaMax } }

/-- The rest angle of an integrator (R153). -/
def restAngleOf (cfg : Configuration) (integrator : Int) : Nat :=
  (min (max (cfg.alphaBias - integrator.tdiv 256) cfg.alphaMin) cfg.alphaMax).toNat

/-- Entry into RESTART with the top record of the stack (R4, R16, R153, R159). -/
def restartedFrom (s : State) (cfg : Configuration) (top : ContextRecord) : State :=
  { s with
    station := { enteredStation .restart s.time with stack := s.station.stack }
    allocator := { s.allocator with setpoint := min s.allocator.latestI s.allocator.latestC }
    regulator :=
      { integrator := top.integrator
        lastAngle := restAngleOf cfg top.integrator
        clampSide :=
          if restAngleOf cfg top.integrator = cfg.alphaMin then .low
          else if restAngleOf cfg top.integrator = cfg.alphaMax then .high
          else .none }
    gates := { s.gates with mode := .enabled, latched := some (restAngleOf cfg top.integrator) } }

/-- The end of STOPPING: its destination, with the STOPPING origin as the standby origin (R5, R23). -/
def arrivedFrom (s : State) (cfg : Configuration) : State :=
  match s.station.destination with
  | none => s
  | some .off => offFrom s cfg
  | some .standby =>
    standbyFrom s (if s.station.stoppingOrigin = some .lowLoad then .lowLoad else .request)

/-- The station after a transition of the classifier into `entered`; a record pushed takes `setpoint` (R10, R12 to
R16, R18, R19, R23). -/
def reacted (s : State) (cfg : Configuration) (entered : ClassifierState) (setpoint : Nat) : State :=
  let record : ContextRecord := ⟨firstKindOf s.classifier.active, s.regulator.integrator, setpoint⟩
  match s.station.state, entered with
  | .syncing, .normal => if s.tracker.state = .locked then startedFrom s cfg else s
  | .starting, .disturbed => blockedFrom s .syncing
  | .starting, .outside => blockedFrom s .syncing
  | .run, .disturbed => rideFrom s record
  | .run, .outside => blockedWith s (s.station.stack ++ [record])
  | .ride, .outside => blockedWith s s.station.stack
  | .ride, .normal => s.station.stack.getLast?.elim s fun top => restartedFrom s cfg top
  | .blocked, .normal => s.station.stack.getLast?.elim s fun top => restartedFrom s cfg top
  | .restart, .disturbed =>
    if s.station.stack.length = 1 then rideFrom s record
    else counted (alerted (standbyFrom s .escalation) (alertOf s .standby 8 0)) [.escalation]
  | .restart, .outside =>
    if s.station.stack.length = 1 then blockedWith s (s.station.stack ++ [record])
    else counted (alerted (standbyFrom s .escalation) (alertOf s .standby 8 0)) [.escalation]
  | .stopping, .outside => arrivedFrom s cfg
  | _, _ => s

/-! What the classifier makes of a figure set and of the tracker's reports. -/

/-- The figure that the envelope requires at an elapsed time (R71). -/
def requiredAt (cfg : Configuration) (ms : Nat) : Nat :=
  ((cfg.envelope.filter fun p => decide (p.time ≤ ms)).getLast?.map EnvelopePoint.figure).getD 0

/-- The distance of a frequency figure from F_nom is at most the band (R64). -/
def figureInBand (cfg : Configuration) (f : Nat) : Bool :=
  let nominal := if cfg.nominalHertz = 50 then 500 else 600
  decide (max f nominal - min f nominal ≤ cfg.frequencyBand)

/-- An onset of a kind into a state, with its events and the station's reaction (R65). -/
def onsetOf (s : State) (cfg : Configuration) (kind : DisturbanceKind) (entered : ClassifierState)
    (setpoint : Nat) : State :=
  reacted { counted s
      (.onset :: ((if entered = .outside then [.block] else []) ++
        (if kind = .frequency then [.freqOut] else []))) with
    classifier :=
      { s.classifier with
        state := entered
        active :=
          ⟨decide (kind = .sag), decide (kind = .phase), decide (kind = .frequency), decide (kind = .sync)⟩
        onset := some s.time
        elapsed := some 0
        confirm := none
        frequencyTimer := if kind = .frequency then some s.time else none } }
    cfg entered setpoint

/-- The move from DISTURBED to OUTSIDE with the active set it leaves: BLOCK is counted, no onset (R70 to R72). -/
def wentOutside (s : State) (cfg : Configuration) (active : ActiveSet) (setpoint : Nat) : State :=
  reacted { counted s [.block] with
    classifier := { s.classifier with state := .outside, active := active, frequencyTimer := none } }
    cfg .outside setpoint

/-- A figure set at the classifier (R66, R70, R71, R73, R74). -/
def figureTaken (s : State) (cfg : Configuration) (v setpoint : Nat) : State :=
  let c := s.classifier
  let joined : ActiveSet := if v < cfg.voltSag then { c.active with sag := true } else c.active
  let onset := onsetOf s cfg .sag
    (if (cfg.envelope.head?.map EnvelopePoint.figure).getD 0 ≤ v then .disturbed else .outside) setpoint
  if c.state = .inactive then s
  else if c.state = .normal then if v < cfg.voltSag then onset else s
  else if c.state = .recovering then
    if v < cfg.voltSag then onset
    else if v < cfg.voltRecovered then { s with classifier := { c with confirm := some s.time } }
    else s
  else if c.state = .disturbed ∧ joined.sag = true ∧ v < requiredAt cfg (c.elapsed.getD 0) then
    wentOutside s cfg joined setpoint
  else if cfg.voltRecovered ≤ v ∧ s.tracker.state = .locked ∧ c.latestFigure.any (figureInBand cfg) then
    { s with
      classifier :=
        { c with state := .recovering, active := joined, confirm := some s.time, frequencyTimer := none } }
  else { s with classifier := { c with active := joined } }

/-- A frequency report at the classifier (R64, R68, R70, R72, R74). -/
def frequencyTaken (s : State) (cfg : Configuration) (f : Nat) : State :=
  let c := s.classifier
  let count := if figureInBand cfg f then 0 else min 3 (c.outOfBand + 1)
  let heard : Classifier := { c with latestFigure := some f, outOfBand := count }
  if c.state = .inactive then s
  else if c.state = .disturbed ∨ c.state = .outside then
    if count = 3 ∧ c.active.frequency = false then
      { counted s [.freqOut] with
        classifier :=
          { heard with
            active := { c.active with frequency := true }
            frequencyTimer := if c.state = .disturbed then some s.time else c.frequencyTimer } }
    else { s with classifier := heard }
  else if count = 3 then
    onsetOf { s with classifier := heard } cfg .frequency .disturbed s.allocator.setpoint
  else if c.state = .recovering ∧ count ≠ 0 then
    { s with classifier := { heard with confirm := some s.time } }
  else { s with classifier := heard }

/-- A PHASE_JUMP report at the classifier (R67, R70, R74). -/
def phaseTaken (s : State) (cfg : Configuration) : State :=
  let c := s.classifier
  if c.state = .inactive then s
  else if c.state = .disturbed ∨ c.state = .outside then
    { s with classifier := { c with active := { c.active with phase := true } } }
  else onsetOf s cfg .phase .disturbed s.allocator.setpoint

/-- A SYNC_LOSS report at the classifier (R69, R70, R74). -/
def syncLossTaken (s : State) (cfg : Configuration) : State :=
  let c := s.classifier
  if c.state = .inactive then s
  else if c.state = .disturbed then
    wentOutside s cfg { c.active with sync := true } s.allocator.setpoint
  else if c.state = .outside then { s with classifier := { c with active := { c.active with sync := true } } }
  else onsetOf s cfg .sync .outside s.allocator.setpoint

/-- A field of `width` bytes at byte `offset` of the data of a response, most significant byte first (R196). -/
def fieldAt (data : List Byte) (offset width : Nat) : Nat :=
  ((data.drop offset).take width).foldl (fun n b => n * 256 + b.toNat) 0

/-- The bits of bytes on SDI or SDO, each byte from its most significant bit down (R185). -/
def carried (bytes : List Byte) : List Bool :=
  bytes.flatMap fun b =>
    [b.getLsbD 7, b.getLsbD 6, b.getLsbD 5, b.getLsbD 4, b.getLsbD 3, b.getLsbD 2, b.getLsbD 1, b.getLsbD 0]

/-- The response codes of R189. -/
def codeNumber : ResponseCode → Byte
  | .done => 1
  | .absent => 2
  | .noRecord => 3
  | .notReady => 4
  | .refusedState => 8
  | .refusedRange => 9
  | .refusedCondition => 10
  | .refusedUnconfigured => 11
  | .unknownRequest => 12

/-- The station state as READ STATUS and READ FAULT code it (R196). -/
def stateNumber : StationState → Nat
  | .unconfigured => 0
  | .syncing => 1
  | .starting => 2
  | .run => 3
  | .ride => 4
  | .blocked => 5
  | .restart => 6
  | .stopping => 7
  | .standby => 8
  | .tripped => 9
  | .off => 10

/-- The kind byte of a context record that may be missing (R196). -/
def recordNumber : Option ContextRecord → Nat
  | none => 0
  | some r =>
    match r.kind with
    | .sag => 1
    | .phase => 2
    | .frequency => 3
    | .sync => 4

/-- The parameter lengths of the table of R184. -/
def lengthAllowed (kind length : Nat) : Prop :=
  (kind = 1 ∧ length = 115) ∨ (kind = 2 ∧ length = 2) ∨ ((kind = 8 ∨ kind = 9) ∧ length = 1) ∨
  (kind = 11 ∧ length ≤ 48 ∧ length % 2 = 0) ∨
  ((kind = 3 ∨ kind = 4 ∨ kind = 5 ∨ kind = 6 ∨ kind = 7 ∨ kind = 10 ∨ kind = 12) ∧ length = 0)

/-- The request that a kind and its parameter bytes spell (R184, R196). -/
def spells (kind : Nat) (body : List Byte) (r : Request) : Prop :=
  (kind = 1 ∧ r = .loadConfig body) ∨
  (kind = 2 ∧ ∃ hi lo, body = [hi, lo] ∧ r = .setDemand (hi.toNat * 256 + lo.toNat)) ∨
  (kind = 3 ∧ r = .readStatus) ∨ (kind = 4 ∧ r = .start) ∨ (kind = 5 ∧ r = .stop) ∨
  (kind = 6 ∧ r = .standby) ∨ (kind = 7 ∧ r = .clearFault) ∨
  (kind = 8 ∧ ∃ n, body = [n] ∧ r = .readPeer n.toNat) ∨
  (kind = 9 ∧ ∃ n, body = [n] ∧ r = .forgetPeer n.toNat) ∨
  (kind = 10 ∧ r = .readEvents) ∨
  (kind = 11 ∧ ∃ pairs : List (Byte × Byte), body = pairs.flatMap (fun p => [p.1, p.2]) ∧
    r = .ackEvents (pairs.map fun p => (p.1.toNat, p.2.toNat))) ∨
  (kind = 12 ∧ r = .readFault)

/-- Every tracked or timed quantity of the line-independent blocks is as before: the frame of a command that acts
on the line side or the port alone. -/
abbrev SamePlantSide (s t : State) : Prop :=
  t.tracker = s.tracker ∧ t.sampler = s.sampler ∧ t.classifier = s.classifier ∧
  t.protection = s.protection ∧ t.time = s.time

end Sys2Proof.Machine

/-! ### The step and the resets -/

/-- A step takes the command at the front of the queue and runs it on the state with the queue's rest. -/
def Obligations.StepRunsTheFrontCommand : Prop :=
  ∀ (s : State) (c : Instr) (rest : List Instr), s.pending = c :: rest →
    step s = exec c { s with pending := rest }

/-- On an empty queue one microsecond passes, unless one of the part's own timed events has come about and waits
for its command: then nothing changes. DESIGN CHOICE (assumptions 1 and 2). What moves with time is the count
(R29), the elapsed count at each 1000 us after t0 up to the last point's time (R71), the entries' ages (R119) and
the allocator's millisecond count (R132), a slot that began is over (R81, assumption 32), and in every state the next
sample of each protection input is due (R170, assumption 24). -/
def Obligations.EmptyQueueLetsOneMicrosecondPass : Prop :=
  ∀ s : State, s.pending = [] →
    (s.eventDue = true → step s = .next s) ∧
    (s.eventDue = false → s.port.config = none →
      step s = .next { s with
        time := s.time + 1
        protection := s.protection.map fun p => { p with sampled := false } }) ∧
    (s.eventDue = false → ∀ cfg, s.port.config = some cfg →
      step s = .next { s with
        time := s.time + 1
        classifier := { s.classifier with
          elapsed :=
            match s.classifier.onset with
            | none => s.classifier.elapsed
            | some t0 => s.classifier.elapsed.map fun d =>
                if d < (cfg.envelope.getLast?.map EnvelopePoint.time).getD 0 ∧
                    ((s.time - t0).toNat + 1) % 1000 = 0
                then d + 1 else d }
        line := { s.line with slotTaken := false }
        protection := s.protection.map fun p => { p with sampled := false }
        peers := s.peers.map fun p =>
          if p.agePhase + 1 < 1000 then { p with age := min 65535 p.age, agePhase := p.agePhase + 1 }
          else { p with
            age := min 65535 (p.age + (p.agePhase + 1) / 1000), agePhase := (p.agePhase + 1) % 1000 }
        allocator :=
          if s.allocator.msPhase + 1 < 1000 then { s.allocator with msPhase := s.allocator.msPhase + 1 }
          else { s.allocator with
            ms := s.allocator.ms + BitVec.ofNat 32 ((s.allocator.msPhase + 1) / 1000)
            msPhase := (s.allocator.msPhase + 1) % 1000 } })

/-- Every command is taken in every state: the part stops at none of them, and none touches the queue of those
that wait. -/
def Obligations.EveryCommandCompletesAndKeepsTheQueue : Prop :=
  ∀ (c : Instr) (s : State), ∃ t, exec c s = .next t ∧ t.pending = s.pending

/-- POWER_ON_RESET: every block holds the power-on values of R2, R31, R44, R61, R79, R93, R110, R131, R152,
R158, R170, R179, R183 and R186, and the level of the SRST line stays the host's (R195, assumption 21). Two fields of the
model's own are clear, no slot taken and no input sampled: DESIGN CHOICE (assumption 22). Quantities of the spec to which
it gives no value (the count, the period before configuration) are not stated. -/
def Obligations.PowerOnResetValues : Prop :=
  ∀ s : State, ∃ t, exec .powerOnReset s = .next t ∧ t.pending = s.pending ∧
    t.station = ⟨.unconfigured, [], none, none, none, false, 0, none⟩ ∧
    t.tracker.state = .unlocked ∧ t.tracker.previous = none ∧ t.tracker.intervals = [] ∧
    t.tracker.acquired = 0 ∧ t.tracker.anchor = none ∧ t.tracker.next = none ∧ t.tracker.deadline = none ∧
    t.tracker.figure = 0 ∧
    t.sampler.mode = .idle ∧ t.sampler.sector = none ∧ t.sampler.freeTimer = none ∧
    t.sampler.windowAB = List.replicate 96 0 ∧ t.sampler.windowBC = List.replicate 96 0 ∧
    t.sampler.windowCA = List.replicate 96 0 ∧ t.sampler.currentSum = 0 ∧ t.sampler.voltageSum = 0 ∧
    t.sampler.cycle = 0 ∧ t.sampler.sink = none ∧ t.sampler.figures = ⟨0, 0, 0, 0, 0, 0, none, 0, 0, 0⟩ ∧
    t.sampler.overcurrent = false ∧ t.sampler.overTemperature = false ∧ t.sampler.dcLimit = false ∧
    t.classifier = ⟨.inactive, ⟨false, false, false, false⟩, none, none, none, none, 0, none⟩ ∧
    t.line = ⟨.inactive, none, none, [], none, none, 0#8, false, 0, 0, false⟩ ∧
    t.filter = ⟨none, none, 0#16, 0#16, 0#16, 0#16, 0#16⟩ ∧ t.peers = [] ∧
    t.allocator.demand = 0 ∧ t.allocator.pendingDemand = none ∧ t.allocator.setpoint = 0 ∧
    t.allocator.target = 0 ∧ t.allocator.shortfall = 0 ∧ t.allocator.headroom = 0 ∧ t.allocator.cover = 0 ∧
    t.allocator.shortfallSum = 0 ∧ t.allocator.headroomSum = 0 ∧ t.allocator.groupDelivered = 0 ∧
    t.allocator.latestC = 0 ∧ t.allocator.latestI = 0 ∧ t.allocator.latestDcLimit = false ∧
    t.allocator.shareTimer = none ∧ t.allocator.lastUpdate = none ∧ t.allocator.ms = 0#32 ∧
    t.allocator.steps = none ∧ t.allocator.capabilityMarker = false ∧ t.allocator.dcHoldMarker = false ∧
    t.regulator = ⟨0, 0, .none⟩ ∧
    t.gates.mode = .inhibited ∧ t.gates.latched = none ∧ t.gates.firings = [] ∧
    (∀ g : Fin 6, t.gates.outputs[g] = none) ∧
    (∀ n : Fin 4, t.protection[n] = ⟨.off, .report, false, false⟩) ∧
    (∀ i : Fin 24, t.events.counters[i] = 0 ∧ t.events.overflow[i] = false ∧ t.events.urgent[i] = false) ∧
    t.events.attnU = false ∧ t.events.attnR = false ∧
    t.fault = ⟨none, 0⟩ ∧
    t.port.transfer = none ∧ t.port.request = none ∧ t.port.response = none ∧ t.port.config = none ∧
    t.port.srstAsserted = s.port.srstAsserted

/-- SRST: UNCONFIGURED and TRIPPED are kept, OFF loses its demand alone, every other state enters OFF and loses
its demand; the counters are zeroed, the port's transfer, request and response are discarded, and the high-water
mark ends at the frames the queue holds (R28, R91, R94, R133, R179, R195). -/
def Obligations.SrstByState : Prop :=
  ∀ (s : State), s.station.StackFits →
    (∀ cfg ∈ s.port.config, configurationInRange cfg = true) →
    (s.port.config = none ↔ s.station.state = .unconfigured) →
    ∃ t, exec .srst s = .next t ∧
      t.port = { s.port with transfer := none, request := none, response := none, sdo := [], srstAsserted := true } ∧
      t.filter = { s.filter with accepted := 0, checkErrors := 0, otherGroup := 0, duplicate := 0, stale := 0 } ∧
      (∀ i : Fin 24, t.events.counters[i] = 0 ∧ t.events.overflow[i] = false) ∧
      t.events.urgent = s.events.urgent ∧ t.events.attnU = false ∧ t.events.attnR = false ∧
      (s.station.state = .unconfigured ∨ s.station.state = .tripped →
        t = { s with
          port := t.port, filter := t.filter, events := t.events
          line := { s.line with highWater := s.line.alertQueue.length } }) ∧
      (s.station.state = .off →
        t = { s with
          port := t.port, filter := t.filter, events := t.events
          line := { s.line with highWater := s.line.alertQueue.length }
          allocator := { s.allocator with demand := 0, pendingDemand := none } }) ∧
      (s.station.state ≠ .unconfigured → s.station.state ≠ .tripped → s.station.state ≠ .off →
        ∀ cfg ∈ s.port.config,
          t = { offFrom s cfg with
            port := t.port, filter := t.filter, events := t.events
            line := { (offFrom s cfg).line with highWater := 1 }
            allocator := { (offFrom s cfg).allocator with demand := 0, pendingDemand := none } })

/-! ### The supervisor port -/

/-- TRANSFER_START puts on SDO the bits of the formed response, or of NOT_READY with 1 or 0, each byte most significant
bit first, and takes the response; while SRST is asserted it takes no transfer and SDO carries no bits but those of
bytes of 0. SRST_RELEASE ends that for the transfers begun after it; in the transfer that SRST interrupted, or that began
under it, SDO stays as it is, at bytes of 0 up to the end: DESIGN CHOICE, R195 is silent there (assumption 31). Bit i of
byte j crosses at place 8 j + i, and behind the last byte come bytes of 0 (R185, R187, R189, R195). -/
def Obligations.TransferStartChoosesWhatIsSent : Prop :=
  ∀ s : State,
    (s.port.transfer = none → s.port.srstAsserted = false →
      (∀ r, s.port.response = some r →
        exec .transferStart s = .next { s with port := { s.port with
          transfer := some [], response := none
          sdo := carried (codeNumber r.code :: BitVec.ofNat 8 r.data.length :: r.data) } }) ∧
      (s.port.response = none →
        exec .transferStart s = .next { s with port := { s.port with
          transfer := some []
          sdo := carried [4#8, 1#8, if s.port.request = none then 0#8 else 1#8] } })) ∧
    (s.port.transfer = none → s.port.srstAsserted = true →
      exec .transferStart s = .next { s with port := { s.port with sdo := [] } }) ∧
    exec .srstRelease s = .next { s with port := { s.port with srstAsserted := false } } ∧
    (∀ bytes : List Byte, s.port.sdo = carried bytes →
      ∀ j i, i < 8 → s.port.sdoBit (8 * j + i) = (bytes.getD j 0#8).getLsbD (7 - i))

/-- TRANSFER_END judges its message by the table of R188, in its order. With no transfer held, because SRST discarded it
or it began while SRST was asserted, nothing is judged and nothing changes (R195). That a request in progress is looked
for at the end of the transfer alone, also when one was in progress as the transfer began and has been answered since, is
the model's choice between R188's table and its prose (assumption 34). -/
def Obligations.TransferEndJudgesItsMessage : Prop :=
  (∀ (s : State) (sdi : List Bool), s.port.transfer = none → exec (.transferEnd sdi) s = .next s) ∧
  ∀ (s : State) (received : List Byte) (sdi : List Bool) (p : SupervisorPort) (message : List Byte),
    s.port.transfer = some received →
    p = { s.port with transfer := none, sdo := [] } →
    message = received ++ bytesOfBits sdi →
    (message = [] → exec (.transferEnd sdi) s = .next { s with port := p }) ∧
    (∀ kind rest, message = kind :: rest →
      (kind = 0#8 ∨ s.port.request ≠ none → exec (.transferEnd sdi) s = .next { s with port := p }) ∧
      (kind ≠ 0#8 → s.port.request = none →
        (rest = [] →
          exec (.transferEnd sdi) s = .next { s with port := { p with response := some ⟨.refusedRange, [0#8]⟩ } }) ∧
        (∀ length parameters, rest = length :: parameters →
          (parameters.length < length.toNat →
            exec (.transferEnd sdi) s =
              .next { s with port := { p with response := some ⟨.refusedRange, [0#8]⟩ } }) ∧
          (length.toNat ≤ parameters.length → 12 < kind.toNat →
            exec (.transferEnd sdi) s =
              .next { s with port := { p with response := some ⟨.unknownRequest, []⟩ } }) ∧
          (length.toNat ≤ parameters.length → kind.toNat ≤ 12 → s.port.config = none → kind.toNat ≠ 1 →
            kind.toNat ≠ 3 →
            exec (.transferEnd sdi) s =
              .next { s with port := { p with response := some ⟨.refusedUnconfigured, []⟩ } }) ∧
          (length.toNat ≤ parameters.length → kind.toNat ≤ 12 →
            s.port.config ≠ none ∨ kind.toNat = 1 ∨ kind.toNat = 3 →
            ¬ lengthAllowed kind.toNat length.toNat →
            exec (.transferEnd sdi) s =
              .next { s with port := { p with response := some ⟨.refusedRange, [0#8]⟩ } }) ∧
          (length.toNat ≤ parameters.length → kind.toNat ≤ 12 →
            s.port.config ≠ none ∨ kind.toNat = 1 ∨ kind.toNat = 3 →
            lengthAllowed kind.toNat length.toNat →
            ∃ r, spells kind.toNat (parameters.take length.toNat) r ∧
              exec (.transferEnd sdi) s = .next { s with port := { p with request := some r } }))))

/-- The bytes of a message are read back from the bits that carry them, and bits of an unfinished last byte are
discarded (R185, R187). The bits come with TRANSFER_END (assumption 10). -/
def Obligations.TransferBitsSpellTheirBytes : Prop :=
  ∀ (bytes : List Byte) (unfinished : List Bool), unfinished.length < 8 →
    bytesOfBits (carried bytes ++ unfinished) = bytes

namespace Sys2Proof.Machine

/-- A two's-complement field of two bytes at byte `offset` (R190). -/
def signedAt (p : List Byte) (offset : Nat) : Int := (BitVec.ofNat 16 (fieldAt p offset 2)).toInt

/-- Time and figure of envelope point `i`, from 0: four bytes each behind the count at byte 48 (R191). -/
def pointAt (p : List Byte) (i : Nat) : EnvelopePoint := ⟨fieldAt p (49 + 4 * i) 2, fieldAt p (51 + 4 * i) 2⟩

/-- Edge and action of input `i`: the upper and the lower four bits of byte 108 + i (R191). -/
def inputAt (p : List Byte) (i : Nat) : ProtectionEdge × ProtectionAction :=
  (match fieldAt p (108 + i) 1 / 16 with
    | 1 => .rising | 2 => .falling | 3 => .both | _ => .off,
   match fieldAt p (108 + i) 1 % 16 with
    | 0 => .trip | 1 => .standby | _ => .report)

/-- The field values of a message, each at its bytes of the 115 (R190, R191). -/
def spelledConfiguration (p : List Byte) : Configuration where
  station := fieldAt p 0 1
  group := fieldAt p 1 1
  rating := fieldAt p 2 2
  currentFullScale := fieldAt p 4 2
  peakCount := fieldAt p 6 2
  voltageFullScale := fieldAt p 8 2
  nominalHertz := fieldAt p 10 1
  phaseShift := signedAt p 11
  sharePeriod := fieldAt p 13 1
  tSilent := fieldAt p 14 2
  tLost := fieldAt p 16 2
  rampUp := fieldAt p 18 2
  rampDown := fieldAt p 20 2
  rampRestart := fieldAt p 22 2
  coverEnabled := decide (fieldAt p 24 1 = 1)
  coverLimit := fieldAt p 25 2
  plantMinimum := fieldAt p 27 4
  tLow := fieldAt p 31 2
  currentZero := fieldAt p 33 2
  voltFloor := fieldAt p 35 2
  voltFull := fieldAt p 37 2
  temperatureFitted := decide (fieldAt p 39 1 = 1)
  tDerate := fieldAt p 40 1
  tMax := fieldAt p 41 1
  voltSag := fieldAt p 42 2
  voltRecovered := fieldAt p 44 2
  tRecovery := fieldAt p 46 2
  envelope := (List.range (fieldAt p 48 1)).map (pointAt p)
  jumpThreshold := fieldAt p 81 2
  frequencyBand := fieldAt p 83 1
  tFrequencyMax := fieldAt p 84 2
  tBlockMax := fieldAt p 86 2
  alphaMin := fieldAt p 88 2
  alphaMax := fieldAt p 90 2
  alphaBias := fieldAt p 92 2
  gainP := fieldAt p 94 2
  gainI := fieldAt p 96 2
  integratorLimit := fieldAt p 98 4
  pulseWidth := fieldAt p 102 2
  overcurrent := fieldAt p 104 2
  voltageMax := fieldAt p 106 2
  inputs := #v[inputAt p 0, inputAt p 1, inputAt p 2, inputAt p 3]
  urgent := Vector.ofFn fun i : Fin 24 => (p.getD (112 + i.val / 8) 0#8).getLsbD (i.val % 8)

/-- The envelope passes (R191): 1 to 8 points, the first at 0 and each later than the one before, none after 10,000 ms,
figures that do not fall and end at or below V_sag. -/
def envelopePasses (p : List Byte) : Bool :=
  let n := fieldAt p 48 1
  decide (1 ≤ n ∧ n ≤ 8 ∧ (pointAt p 0).time = 0 ∧ (pointAt p (n - 1)).figure ≤ fieldAt p 42 2) &&
  (List.range n).all (fun i => decide ((pointAt p i).time ≤ 10000)) &&
  (List.range (n - 1)).all (fun i =>
    decide ((pointAt p i).time < (pointAt p (i + 1)).time ∧ (pointAt p i).figure ≤ (pointAt p (i + 1)).figure))

/-- The field at bytes `offset` on lies within the limits, both included (R190). -/
def liesIn (p : List Byte) (offset width low high : Nat) : Bool :=
  decide (low ≤ fieldAt p offset width ∧ fieldAt p offset width ≤ high)

/-- Field `k` passes: the range column of the table of R190, with the composite fields of R191. -/
def fieldPasses (p : List Byte) : Nat → Bool
  | 1 => liesIn p 0 1 0 15
  | 2 => liesIn p 1 1 0 3
  | 3 => liesIn p 2 2 1000 32000
  | 4 => liesIn p 4 2 (fieldAt p 2 2) 65000
  | 5 => liesIn p 6 2 1000 2047
  | 6 => liesIn p 8 2 100 2000
  | 7 => decide (fieldAt p 10 1 = 50 ∨ fieldAt p 10 1 = 60)
  | 8 => decide (signedAt p 11 ∈ [-300, -150, 0, 150, 300])
  | 9 => liesIn p 13 1 2 20
  | 10 => liesIn p 14 2 5 500
  | 11 => liesIn p 16 2 (fieldAt p 14 2 + 1) 5000
  | 12 => liesIn p 18 2 10 50000
  | 13 => liesIn p 20 2 10 50000
  | 14 => liesIn p 22 2 (fieldAt p 18 2) 50000
  | 15 => liesIn p 24 1 0 1
  | 16 => liesIn p 25 2 0 (fieldAt p 2 2)
  | 17 => liesIn p 27 4 0 512000
  | 18 => liesIn p 31 2 500 60000
  | 19 => liesIn p 33 2 0 1000
  | 20 => liesIn p 35 2 0 900
  | 21 => liesIn p 37 2 (fieldAt p 35 2 + 50) 1200
  | 22 => liesIn p 39 1 0 1
  | 23 => liesIn p 40 1 40 120
  | 24 => liesIn p 41 1 (fieldAt p 40 1 + 5) 150
  | 25 => liesIn p 42 2 500 950
  | 26 => liesIn p 44 2 (fieldAt p 42 2) 980
  | 27 => liesIn p 46 2 20 5000
  | 28 => envelopePasses p
  | 29 => liesIn p 81 2 50 300
  | 30 => liesIn p 83 1 5 50
  | 31 => liesIn p 84 2 100 60000
  | 32 => liesIn p 86 2 100 30000
  | 33 => liesIn p 88 2 50 600
  | 34 => liesIn p 90 2 (fieldAt p 88 2 + 100) 1650
  | 35 => liesIn p 92 2 (fieldAt p 88 2) (fieldAt p 90 2)
  | 36 => liesIn p 94 2 0 4095
  | 37 => liesIn p 96 2 0 4095
  | 38 => liesIn p 98 4 0 8000000
  | 39 => liesIn p 102 2 50 1000
  | 40 => liesIn p 104 2 (fieldAt p 2 2 + 1) 65000
  | 41 => liesIn p 106 2 50 2000
  | 42 => (List.range 4).all fun i =>
      decide (fieldAt p (108 + i) 1 / 16 ≤ 3 ∧ fieldAt p (108 + i) 1 % 16 ≤ 2)
  | _ => true

/-- All 43 fields pass (R190). -/
def everyFieldPasses (p : List Byte) : Prop := ∀ k, 1 ≤ k → k ≤ 43 → fieldPasses p k = true

end Sys2Proof.Machine

/-- LOAD_CONFIG with 43 fields that meet the ranges of R190 and R191 is accepted: the configuration is the fields at
their bytes, and every block leaves its power-on state in the one event (R192, with R3, R31, R45, R61, R79, R93, R132,
R152, R170, R175). -/
def Obligations.LoadConfigAcceptedActivatesEveryBlock : Prop :=
  ∀ (s : State) (p : List Byte) (plant : PlantInputs) (cfg : Configuration),
    s.port.request = some (.loadConfig p) → p.length = 115 → s.port.config = none →
    everyFieldPasses p → cfg = spelledConfiguration p →
    ∃ t, exec (.loadConfig plant) s = .next t ∧
      t.station = { s.station with state := .off } ∧
      t.tracker = { s.tracker with
        state := .unlocked
        period := if cfg.nominalHertz = 50 then 20000 else 16667
        figure := if cfg.nominalHertz = 50 then 500 else 599 } ∧
      t.sampler = { s.sampler with
        mode := .free
        sector := some ⟨s.time, if cfg.nominalHertz = 50 then 20000 else 16667, 1⟩
        freeTimer := some (s.time + if cfg.nominalHertz = 50 then 3333#32 else 2777#32)
        windowAB := (s.sampler.windowAB ++ [max (-2047) plant.lineAB.toInt]).drop 1
        windowBC := (s.sampler.windowBC ++ [max (-2047) plant.lineBC.toInt]).drop 1
        windowCA := (s.sampler.windowCA ++ [max (-2047) plant.lineCA.toInt]).drop 1
        currentSum := plant.current.toNat
        voltageSum := plant.voltage.toNat
        sink := if cfg.temperatureFitted then some (min (max plant.sink (-40)) 200) else s.sampler.sink } ∧
      t.classifier = ⟨.normal, ⟨false, false, false, false⟩, none, none, none, none, 0, none⟩ ∧
      t.line = { s.line with view := .seeking } ∧
      t.filter = { s.filter with station := some cfg.station, group := some cfg.group } ∧
      t.allocator = { s.allocator with
        steps := some
          { up := max 1 ((2 * (cfg.rampUp * cfg.sharePeriod) + 1000) / 2000)
            restart := max 1 ((2 * (cfg.rampRestart * cfg.sharePeriod) + 1000) / 2000)
            down := max 1 ((2 * (cfg.rampDown * cfg.sharePeriod) + 1000) / 2000) }
        shareTimer := some (s.time + BitVec.ofNat 32 (cfg.sharePeriod * 1000))
        ms := 0
        msPhase := 0 } ∧
      t.regulator = { s.regulator with lastAngle := cfg.alphaMax, clampSide := .high } ∧
      (∀ n : Fin 4, t.protection[n] = ⟨cfg.inputs[n].1, cfg.inputs[n].2, s.protection[n].level,
        s.protection[n].sampled⟩) ∧
      t.events.counters = s.events.counters ∧ t.events.overflow = s.events.overflow ∧
      t.events.urgent = cfg.urgent ∧
      t.port = { s.port with request := none, response := some ⟨.done, []⟩, config := some cfg } ∧
      t.peers = s.peers ∧ t.gates = s.gates ∧ t.fault = s.fault ∧ t.time = s.time ∧ t.pending = s.pending

/-- LOAD_CONFIG refused changes nothing but the response: in a configured part, at a wrong length, and at the
first field of the table that lies outside its range (R190, R191). -/
def Obligations.LoadConfigRefusedAtTheFirstFault : Prop :=
  ∀ (s : State) (p : List Byte) (plant : PlantInputs), s.port.request = some (.loadConfig p) →
    (p.length ≠ 115 → exec (.loadConfig plant) s = .next (answered s .refusedRange [0#8])) ∧
    (p.length = 115 → s.port.config ≠ none →
      exec (.loadConfig plant) s = .next (answered s .refusedState [])) ∧
    (p.length = 115 → s.port.config = none → ∀ k, 1 ≤ k → k ≤ 43 → fieldPasses p k = false →
      (∀ j, 1 ≤ j → j < k → fieldPasses p j = true) →
      exec (.loadConfig plant) s = .next (answered s .refusedRange [BitVec.ofNat 8 k]))

/-- The port's check passes a message of 115 bytes exactly when its 43 fields meet the ranges of R190 and R191, and the
configuration of such a message has every field at its bytes, within the ranges restated over field values. -/
def Obligations.ConfigurationIsReadAndCheckedByItsTable : Prop :=
  ∀ p : List Byte, p.length = 115 →
    (configurationFault p = none ↔ everyFieldPasses p) ∧
    (everyFieldPasses p →
      configurationOf p = spelledConfiguration p ∧ configurationInRange (spelledConfiguration p) = true)

/-- SET_DEMAND stores the lesser of the value and I_r, into D in OFF and as the pending demand elsewhere, counts
DEMAND_CLAMPED above I_r and answers the stored value (R134, R193). -/
def Obligations.SetDemandStoresTheClampedValue : Prop :=
  (∀ (s : State) (value : Nat), s.port.request = some (.setDemand value) → s.port.config = none →
    exec .setDemand s = .next (answered s .refusedUnconfigured [])) ∧
  (∀ (s : State) (cfg : Configuration) (value : Nat), Asked s cfg (.setDemand value) →
     ∃ t, exec .setDemand s = .next t ∧
       t = { answered s .done
               [BitVec.ofNat 8 (min value cfg.rating / 256), BitVec.ofNat 8 (min value cfg.rating)] with
         allocator :=
           if s.station.state = .off then
             { s.allocator with demand := min value cfg.rating, pendingDemand := none }
           else { s.allocator with pendingDemand := some (min value cfg.rating) }
         events := if cfg.rating < value then s.events.count .demandClamped else s.events })

/-- READ_STATUS answers DONE with the 64 bytes of the layout of R196, each field read back at its place, and
then sets the high-water mark to the frames the queue holds; nothing else changes (R85, R194). -/
def Obligations.ReadStatusAnswersItsLayout : Prop :=
  ∀ s : State, s.port.request = some .readStatus →
    ∃ d, exec .readStatus s = .next { answered s .done d with
        line := { s.line with highWater := s.line.alertQueue.length } } ∧
      d.length = 64 ∧
      fieldAt d 0 1 = stateNumber s.station.state ∧
      fieldAt d 1 1 = (match s.station.destination with
        | none => 0 | some .off => 1 | some .standby => 2) ∧
      fieldAt d 2 1 = (match s.station.standbyOrigin with
        | none => 0 | some .request => 1 | some .lowLoad => 2 | some .protection => 3
        | some .escalation => 4 | some .blockTimeout => 5) ∧
      fieldAt d 3 1 = (match s.classifier.state with
        | .inactive => 0 | .normal => 1 | .disturbed => 2 | .outside => 3 | .recovering => 4) ∧
      fieldAt d 4 1 = (if s.classifier.active.sag then 1 else 0) + (if s.classifier.active.phase then 2 else 0) +
        (if s.classifier.active.frequency then 4 else 0) + (if s.classifier.active.sync then 8 else 0) ∧
      fieldAt d 5 1 = (match s.tracker.state with
        | .unlocked => 0 | .acquiring => 1 | .locked => 2) ∧
      fieldAt d 6 2 = s.allocator.demand % 65536 ∧ fieldAt d 8 2 = s.allocator.setpoint % 65536 ∧
      fieldAt d 10 2 = s.sampler.figures.current % 65536 ∧
      fieldAt d 12 2 = s.sampler.figures.capability % 65536 ∧
      fieldAt d 14 2 = s.allocator.shortfall % 65536 ∧ fieldAt d 16 2 = s.allocator.headroom % 65536 ∧
      fieldAt d 18 2 = s.allocator.cover % 65536 ∧ fieldAt d 20 2 = s.allocator.target % 65536 ∧
      fieldAt d 22 2 = s.regulator.lastAngle % 65536 ∧ fieldAt d 24 2 = s.sampler.figures.voltage % 65536 ∧
      fieldAt d 26 2 = s.sampler.figures.dcVoltage % 65536 ∧
      BitVec.ofNat 16 (fieldAt d 28 2) = BitVec.ofInt 16 (s.sampler.figures.sink.getD (-32768)) ∧
      fieldAt d 30 2 = s.tracker.figure % 65536 ∧ fieldAt d 32 1 = s.station.stack.length % 256 ∧
      fieldAt d 33 1 = recordNumber s.station.stack.head? ∧
      fieldAt d 34 1 = recordNumber s.station.stack.getLast? ∧
      fieldAt d 35 4 = s.allocator.shortfallSum % 4294967296 ∧
      fieldAt d 39 4 = s.allocator.headroomSum % 4294967296 ∧
      fieldAt d 43 4 = s.allocator.groupDelivered % 4294967296 ∧
      fieldAt d 47 1 = (s.peers.countP fun p => decide (p.status = .fresh)) % 256 ∧
      fieldAt d 48 1 = (s.peers.countP fun p => decide (p.status = .silent)) % 256 ∧
      fieldAt d 49 1 = (s.peers.countP fun p => decide (p.status = .lost)) % 256 ∧
      fieldAt d 50 2 = s.filter.accepted.toNat ∧ fieldAt d 52 2 = s.filter.checkErrors.toNat ∧
      fieldAt d 54 2 = s.filter.otherGroup.toNat ∧ fieldAt d 56 2 = s.filter.duplicate.toNat ∧
      fieldAt d 58 2 = s.filter.stale.toNat ∧ fieldAt d 60 1 = s.line.highWater % 256 ∧
      ∀ i : Fin 24, (d.getD (61 + i.val / 8) 0#8).getLsbD (i.val % 8) = decide (0 < s.events.counters[i])

/-- START moves OFF and STANDBY to SYNCING and is refused elsewhere; from OFF it has the effects of R8, and from
STANDBY the sequence numbering and the flag are kept (R8, R9). -/
def Obligations.StartMovesToSyncing : Prop :=
  (∀ s : State, s.port.request = some .start → s.port.config = none →
    exec .start s = .next (answered s .refusedUnconfigured [])) ∧
  (∀ (s : State) (cfg : Configuration), Asked s cfg .start → s.station.StackFits →
     (s.station.state = .off →
       exec .start s = .next { answered (blockedFrom s .syncing) .done [] with
         line := { s.line with
           alertQueue := s.line.alertQueue.filter fun q => decide (q.body ≠ .leave)
           nextSequence := 0
           firstFlag := true } }) ∧
     (s.station.state = .standby → exec .start s = .next (answered (blockedFrom s .syncing) .done [])) ∧
     (s.station.state ≠ .off → s.station.state ≠ .standby → s.station.state ≠ .unconfigured →
       exec .start s = .next (answered s .refusedState [])))

/-- STOP by the table of R21. -/
def Obligations.StopByState : Prop :=
  (∀ s : State, s.port.request = some .stop → s.port.config = none →
    exec .stop s = .next (answered s .refusedUnconfigured [])) ∧
  (∀ (s : State) (cfg : Configuration), Asked s cfg .stop → s.station.StackFits →
     (s.station.state = .syncing ∨ s.station.state = .blocked ∨ s.station.state = .standby →
       exec .stop s = .next (answered (offFrom s cfg) .done [])) ∧
     (s.station.state = .starting ∨ s.station.state = .run ∨ s.station.state = .ride ∨
         s.station.state = .restart →
       exec .stop s = .next (answered (stoppingFrom s .off none) .done [])) ∧
     (s.station.state = .stopping →
       exec .stop s = .next { answered s .done [] with
         station := { s.station with destination := some .off, stoppingOrigin := none } }) ∧
     (s.station.state = .off ∨ s.station.state = .tripped →
       exec .stop s = .next (answered s .refusedState [])))

/-- STANDBY by the table of R22. -/
def Obligations.StandbyByState : Prop :=
  (∀ s : State, s.port.request = some .standby → s.port.config = none →
    exec .standby s = .next (answered s .refusedUnconfigured [])) ∧
  (∀ (s : State) (cfg : Configuration), Asked s cfg .standby → s.station.StackFits →
     (s.station.state = .starting ∨ s.station.state = .run ∨ s.station.state = .ride ∨
         s.station.state = .restart →
       exec .standby s = .next (answered (stoppingFrom s .standby (some .request)) .done [])) ∧
     (s.station.state = .syncing ∨ s.station.state = .blocked →
       exec .standby s = .next (answered (standbyFrom s .request) .done [])) ∧
     (s.station.state = .off ∨ s.station.state = .standby ∨ s.station.state = .stopping ∨
         s.station.state = .tripped →
       exec .standby s = .next (answered s .refusedState [])))

/-- CLEAR_FAULT in TRIPPED is refused while a recorded input stands at its active level, and otherwise clears
the record and enters OFF; elsewhere it is refused (R27, R183). That the level refuses also behind a new trip of the same
input, for which R27's list says that the clear takes it along, is the model's choice (assumption 33). -/
def Obligations.ClearFaultExaminesTheCause : Prop :=
  (∀ s : State, s.port.request = some .clearFault → s.port.config = none →
    exec .clearFault s = .next (answered s .refusedUnconfigured [])) ∧
  (∀ (s : State) (cfg : Configuration), Asked s cfg .clearFault → s.station.StackFits →
     (∀ (p : TripPicture) (n : Fin 4), s.station.state = .tripped → s.fault.picture = some p →
       p.cause = .protection n →
       (s.protection[n].edge = .rising ∧ s.protection[n].level = true) ∨
         (s.protection[n].edge = .falling ∧ s.protection[n].level = false) →
       exec .clearFault s = .next (answered s .refusedCondition [])) ∧
     (∀ p : TripPicture, s.station.state = .tripped → s.fault.picture = some p →
       (∀ n : Fin 4, p.cause = .protection n →
         ¬ (s.protection[n].edge = .rising ∧ s.protection[n].level = true) ∧
         ¬ (s.protection[n].edge = .falling ∧ s.protection[n].level = false)) →
       exec .clearFault s = .next { answered (offFrom s cfg) .done [] with fault := ⟨none, 0⟩ }) ∧
     (s.station.state ≠ .tripped → s.station.state ≠ .unconfigured →
       exec .clearFault s = .next (answered s .refusedState [])))

/-- READ_PEER answers the entry's fields at their places of the 22 bytes, ABSENT, or REFUSED_RANGE, and changes
nothing (R127, R196). -/
def Obligations.ReadPeerAnswersTheEntry : Prop :=
  (∀ (s : State) (n : Nat), s.port.request = some (.readPeer n) → s.port.config = none →
    exec .readPeer s = .next (answered s .refusedUnconfigured [])) ∧
  (∀ (s : State) (cfg : Configuration) (n : Nat), Asked s cfg (.readPeer n) →
     (15 < n → exec .readPeer s = .next (answered s .refusedRange [1#8])) ∧
     (n ≤ 15 → (∀ p ∈ s.peers, p.station ≠ n) → exec .readPeer s = .next (answered s .absent [])) ∧
     (n ≤ 15 → ∀ p ∈ s.peers, p.station = n → s.peers.Pairwise (fun a b => a.station < b.station) →
       ∃ d, exec .readPeer s = .next (answered s .done d) ∧ d.length = 22 ∧
         fieldAt d 0 1 = n ∧
         fieldAt d 1 1 = (match p.status with
           | .fresh => 1 | .silent => 2 | .lost => 3) ∧
         fieldAt d 2 1 = p.lastState % 256 ∧ fieldAt d 3 2 = p.demand % 65536 ∧
         fieldAt d 5 2 = p.delivered % 65536 ∧ fieldAt d 7 2 = p.capability % 65536 ∧
         fieldAt d 9 2 = p.shortfall % 65536 ∧ fieldAt d 11 2 = p.headroom % 65536 ∧
         fieldAt d 13 2 = p.cover % 65536 ∧ fieldAt d 15 2 = p.voltage % 65536 ∧
         fieldAt d 17 1 = (p.sharePeriod.getD 0) % 256 ∧ fieldAt d 18 1 = p.lastSequence.toNat ∧
         fieldAt d 19 2 = p.age % 65536 ∧ fieldAt d 21 1 = p.missed % 256))

/-- READ_EVENTS answers every counter and marker, and READ_FAULT the record or NONE, with nothing changed (R176,
R182, R196). -/
def Obligations.ReadEventsAndReadFaultReport : Prop :=
  (∀ s : State, s.port.config = none →
    (s.port.request = some .readEvents → exec .readEvents s = .next (answered s .refusedUnconfigured [])) ∧
    (s.port.request = some .readFault → exec .readFault s = .next (answered s .refusedUnconfigured []))) ∧
  (∀ (s : State) (cfg : Configuration), s.port.config = some cfg →
     (s.port.request = some .readEvents →
       ∃ d, exec .readEvents s = .next (answered s .done d) ∧ d.length = 27 ∧
         ∀ i : Fin 24, fieldAt d i.val 1 = s.events.counters[i] % 256 ∧
           (d.getD (24 + i.val / 8) 0#8).getLsbD (i.val % 8) = s.events.overflow[i]) ∧
     (s.port.request = some .readFault → s.fault.picture = none →
       exec .readFault s = .next (answered s .noRecord [])) ∧
     (∀ p, s.port.request = some .readFault → s.fault.picture = some p →
       ∃ d, exec .readFault s = .next (answered s .done d) ∧ d.length = 17 ∧
         fieldAt d 0 1 = (match p.cause with
           | .protection n => n.val | .dcOvercurrent => 4 | .overTemperature => 5 | .duplicateStation => 6) ∧
         fieldAt d 1 1 = stateNumber p.stateBefore ∧
         fieldAt d 2 2 = p.setpoint % 65536 ∧ fieldAt d 4 2 = p.current % 65536 ∧
         fieldAt d 6 2 = p.voltage % 65536 ∧ fieldAt d 8 2 = p.lastAngle % 65536 ∧
         BitVec.ofNat 16 (fieldAt d 10 2) = BitVec.ofInt 16 (p.sink.getD (-32768)) ∧
         fieldAt d 12 1 = p.contextDepth % 256 ∧
         fieldAt d 13 1 = (match p.tracker with
           | .unlocked => 0 | .acquiring => 1 | .locked => 2) ∧
         fieldAt d 14 1 = (match p.classifier with
           | .inactive => 0 | .normal => 1 | .disturbed => 2 | .outside => 3 | .recovering => 4) ∧
         fieldAt d 15 1 = p.freshPeers % 256 ∧ fieldAt d 16 1 = s.fault.laterTrips % 256))

/-- FORGET_PEER by the table of R128. -/
def Obligations.ForgetPeerRemovesALostEntry : Prop :=
  ∀ (s : State) (n : Nat), s.port.request = some (.forgetPeer n) →
    (s.port.config = none → exec .forgetPeer s = .next (answered s .refusedUnconfigured [])) ∧
    (∀ cfg, s.port.config = some cfg →
      (15 < n ∨ n = cfg.station ∨ (∀ p ∈ s.peers, p.station ≠ n) →
        exec .forgetPeer s = .next (answered s .refusedRange [1#8])) ∧
      (n ≤ 15 → n ≠ cfg.station → ∀ p, s.peers.find? (fun q => decide (q.station = n)) = some p →
        (p.status = .fresh ∨ p.status = .silent →
          exec .forgetPeer s = .next (answered s .refusedState [])) ∧
        (p.status = .lost →
          exec .forgetPeer s = .next { answered (counted s [.peerLeft]) .done [] with
            peers := s.peers.filter fun q => decide (q.station ≠ n) })))

/-- ACK_EVENTS checks its pairs in list order before it applies any, and applies all of them or none: each named
counter loses the count seen, down to 0, its marker is cleared when the counter is left below 255, and the lines
follow (R175, R177). That the first failing pair in list order decides, whichever check it fails, is the model's
choice (assumption 30). -/
def Obligations.AckEventsSubtractsWhatWasSeen : Prop :=
  (∀ (s : State) (pairs : List (Nat × Nat)), s.port.request = some (.ackEvents pairs) → s.port.config = none →
    exec .ackEvents s = .next (answered s .refusedUnconfigured [])) ∧
  (∀ (s : State) (cfg : Configuration) (pairs : List (Nat × Nat)), Asked s cfg (.ackEvents pairs) →
     ((∀ p ∈ pairs, 1 ≤ p.1 ∧ p.1 ≤ 24) → (pairs.map Prod.fst).Nodup →
       ∃ e : EventUnit, exec .ackEvents s = .next { answered s .done [] with events := e } ∧
         e.urgent = s.events.urgent ∧
         (e.attnU = true ↔ ∃ i : Fin 24, e.urgent[i] = true ∧ 0 < e.counters[i]) ∧
         (e.attnR = true ↔ ∃ i : Fin 24, e.urgent[i] = false ∧ 0 < e.counters[i]) ∧
         ∀ i : Fin 24,
           (∀ seen, (i.val + 1, seen) ∈ pairs →
             e.counters[i] = s.events.counters[i] - seen ∧
             e.overflow[i] = (s.events.overflow[i] && decide (255 ≤ s.events.counters[i] - seen))) ∧
           ((∀ p ∈ pairs, p.1 ≠ i.val + 1) →
             e.counters[i] = s.events.counters[i] ∧ e.overflow[i] = s.events.overflow[i])) ∧
     (∀ k, k < pairs.length →
       (pairs[k]?.map Prod.fst = some 0 ∨ (∃ n, 24 < n ∧ pairs[k]?.map Prod.fst = some n) ∨
         ∃ j, j < k ∧ pairs[j]?.map Prod.fst = pairs[k]?.map Prod.fst) →
       (∀ p ∈ pairs.take k, 1 ≤ p.1 ∧ p.1 ≤ 24) → ((pairs.take k).map Prod.fst).Nodup →
       exec .ackEvents s = .next (answered s .refusedRange [BitVec.ofNat 8 (2 * k + 1)])))

namespace Sys2Proof.Machine

/-- The number of each kind (R173). -/
def kindNumber : EventKind → Nat
  | .onset => 1
  | .block => 2
  | .recovered => 3
  | .escalation => 4
  | .blockTimeout => 5
  | .syncLoss => 6
  | .phaseJump => 7
  | .phaseShift => 8
  | .freqOut => 9
  | .trip => 10
  | .lowLoad => 11
  | .peerJoined => 12
  | .peerSilent => 13
  | .peerLost => 14
  | .peerRestart => 15
  | .peerLeft => 16
  | .frameError => 17
  | .seqGap => 18
  | .txDropped => 19
  | .collision => 20
  | .capabilityLimit => 21
  | .dcVoltageLimit => 22
  | .protectionReport => 23
  | .demandClamped => 24

end Sys2Proof.Machine

/-- One occurrence of a kind: the counter of its number in R173 (numbers from 1, counters from 0) rises by 1 below 255,
and at 255 its marker is set; no other counter or marker changes, and the lines follow (R173, R174, R175). -/
def Obligations.OccurrenceRaisesItsCounter : Prop :=
  ∀ (e : EventUnit) (k : EventKind) (own : Fin 24), own.val + 1 = kindNumber k →
    (e.counters[own] < 255 →
      (e.count k).counters[own] = e.counters[own] + 1 ∧ (e.count k).overflow = e.overflow) ∧
    (255 ≤ e.counters[own] →
      (e.count k).counters = e.counters ∧ (e.count k).overflow[own] = true) ∧
    (∀ i : Fin 24, i ≠ own →
      (e.count k).counters[i] = e.counters[i] ∧ (e.count k).overflow[i] = e.overflow[i]) ∧
    (e.count k).urgent = e.urgent ∧
    ((e.count k).attnU = true ↔ ∃ i : Fin 24, e.urgent[i] = true ∧ 0 < (e.count k).counters[i]) ∧
    ((e.count k).attnR = true ↔ ∃ i : Fin 24, e.urgent[i] = false ∧ 0 < (e.count k).counters[i])

/-! ### Grid Phase Tracker -/

namespace Sys2Proof.Machine

/-- The nominal period in microseconds (R30). -/
def nominalMicros (cfg : Configuration) : Nat := if cfg.nominalHertz = 50 then 20000 else 16667

/-- The test of R30 in whole numbers. -/
def plausibleInterval (cfg : Configuration) (interval : Nat) : Prop :=
  4 * nominalMicros cfg ≤ 5 * interval ∧ 4 * interval ≤ 5 * nominalMicros cfg

end Sys2Proof.Machine

/-- CAPTURE before lock: an implausible one becomes the previous capture and no more (R30), a plausible one
starts a run in UNLOCKED (R32), and in ACQUIRING joins the run or breaks it (R33). The figure is reported
afterwards, in band or out, and the classifier and the station take the report (R39, R64, R68, R70, R74; R12, R14,
R18, R19). -/
def Obligations.CaptureBeforeLock : Prop :=
  ∀ (s : State) (cfg : Configuration), s.port.config = some cfg → configurationInRange cfg = true →
    s.station.StackFits →
    ((s.tracker.previous = none ∨
        ∃ p, s.tracker.previous = some p ∧ ¬ plausibleInterval cfg (s.time - p).toNat) →
      exec .capture s = .next (frequencyTaken
        { s with tracker := { s.tracker with previous := some s.time } } cfg s.tracker.figure)) ∧
    (∀ p, s.tracker.previous = some p → plausibleInterval cfg (s.time - p).toNat →
      (s.tracker.state = .unlocked ∨
          (s.tracker.state = .acquiring ∧ ∃ last, s.tracker.intervals.getLast? = some last ∧
            nominalMicros cfg < 100 * (max (s.time - p).toNat last - min (s.time - p).toNat last)) →
        exec .capture s = .next (frequencyTaken
          { s with
            tracker := { s.tracker with
              state := .acquiring, previous := some s.time, anchor := some s.time, intervals := []
              acquired := 0 } } cfg s.tracker.figure)) ∧
      (s.tracker.state = .acquiring → s.tracker.acquired < 3 →
        (∀ last, s.tracker.intervals.getLast? = some last →
          100 * (max (s.time - p).toNat last - min (s.time - p).toNat last) ≤ nominalMicros cfg) →
        exec .capture s = .next (frequencyTaken
          { s with
            tracker := { s.tracker with
              previous := some s.time
              intervals := s.tracker.intervals ++ [(s.time - p).toNat]
              acquired := s.tracker.acquired + 1 } } cfg s.tracker.figure)))

namespace Sys2Proof.Machine

/-- The microseconds of index m after the anchor: the shift toward zero and the floor of m × P / 6 (R40). -/
def scheduled (cfg : Configuration) (period m : Nat) : Int :=
  (cfg.phaseShift * period).tdiv 3600 + (m * period / 6 : Nat)

/-- The boundary of an index in the schedule of an anchor and a P (R40). -/
def scheduledBoundary (cfg : Configuration) (anchor : Micros) (period m : Nat) : Boundary where
  time := anchor + BitVec.ofInt 32 (scheduled cfg period m)
  sector := m % 6
  index := m

/-- `m` is the least index that lies at or after the capture, which itself lies `ahead` after the anchor, and that is
greater than `last` (R41). -/
def leastOpen (cfg : Configuration) (period : Nat) (ahead : Int) (last : Option Int) (m : Nat) : Prop :=
  ahead ≤ scheduled cfg period m ∧ (∀ l ∈ last, l < m) ∧
  ∀ k, k < m → scheduled cfg period k < ahead ∨ ∃ l ∈ last, (k : Int) ≤ l

end Sys2Proof.Machine

/-- CAPTURE that completes the fourth interval locks: P, f, anchor and deadline by R34, R38 and R39, the
Sampling Unit in TRACKED with its timer stopped (R50), and the next boundary the least index of the new schedule
at or after the capture (R40, R41). The figure is reported afterwards (R39, R64, R68, R70, R74). -/
def Obligations.FourthIntervalLocks : Prop :=
  ∀ (s : State) (cfg : Configuration) (p : Micros) (period : Nat),
    s.port.config = some cfg → configurationInRange cfg = true → s.station.StackFits →
    s.tracker.state = .acquiring → s.tracker.acquired = 3 → s.tracker.previous = some p →
    plausibleInterval cfg (s.time - p).toNat →
    (∀ x ∈ s.tracker.intervals, plausibleInterval cfg x) → s.tracker.intervals.length = 3 →
    (∀ last, s.tracker.intervals.getLast? = some last →
      100 * (max (s.time - p).toNat last - min (s.time - p).toNat last) ≤ nominalMicros cfg) →
    period = (s.tracker.intervals ++ [(s.time - p).toNat]).sum / 4 →
    ∃ m : Nat, leastOpen cfg period 0 none m ∧
      exec .capture s = .next (frequencyTaken
        { s with
          tracker :=
            { state := .locked
              previous := some s.time
              intervals := s.tracker.intervals ++ [(s.time - p).toNat]
              acquired := 4
              anchor := some s.time
              period := period
              figure := 10000000 / period
              next := some (scheduledBoundary cfg s.time period m)
              deadline := some (s.time + BitVec.ofNat 32 (period + period / 4))
              lastIndex := none }
          sampler := { s.sampler with mode := .tracked, freeTimer := none } } cfg (10000000 / period))

/-- CAPTURE in LOCKED with a plausible interval: the phase error uses the old P, its band sets the anchor and
the event, and the interval list, P, f, the deadline and the next boundary follow (R35 to R41). In the third band
the classifier takes the PHASE_JUMP report, and in every band the frequency report after it, and the station
reacts (R64, R67, R68, R70, R74; R12, R14, R18, R19). The index carried as m_l - 6 is the model's form
(assumption 17). -/
def Obligations.LockedCaptureFollowsItsBand : Prop :=
  ∀ (s : State) (cfg : Configuration) (p a anchor : Micros) (late e ahead : Int) (list : List Nat) (period : Nat),
    s.port.config = some cfg → configurationInRange cfg = true → s.station.StackFits →
    s.tracker.state = .locked → s.tracker.previous = some p →
    plausibleInterval cfg (s.time - p).toNat → s.tracker.anchor = some a → s.tracker.intervals.length = 4 →
    (∀ x ∈ s.tracker.intervals, plausibleInterval cfg x) → 0 < s.tracker.period →
    late = (s.time - (a + BitVec.ofNat 32 s.tracker.period)).toInt →
    e = (late * 3600).tdiv s.tracker.period →
    list = (s.tracker.intervals ++ [(s.time - p).toNat]).drop 1 → period = list.sum / 4 →
    (e.natAbs ≤ 30 → anchor = a + BitVec.ofNat 32 s.tracker.period + BitVec.ofInt 32 (late.tdiv 4) ∧
      ahead = late - late.tdiv 4) →
    (30 < e.natAbs → anchor = s.time ∧ ahead = 0) →
    ∃ (m : Nat) (u : State), leastOpen cfg period ahead (s.tracker.lastIndex.map fun l => l - 6) m ∧
      u = { s with
        tracker := { s.tracker with
          previous := some s.time
          intervals := list
          anchor := some anchor
          period := period
          figure := 10000000 / period
          next := some (scheduledBoundary cfg anchor period m)
          deadline := some (anchor + BitVec.ofNat 32 (period + period / 4))
          lastIndex := s.tracker.lastIndex.map fun l => l - 6 } } ∧
      (e.natAbs ≤ 30 → exec .capture s = .next (frequencyTaken u cfg (10000000 / period))) ∧
      (30 < e.natAbs → e.natAbs ≤ cfg.jumpThreshold →
        exec .capture s = .next (frequencyTaken (counted u [.phaseShift]) cfg (10000000 / period))) ∧
      (cfg.jumpThreshold < e.natAbs →
        exec .capture s =
          .next (frequencyTaken (phaseTaken (counted u [.phaseJump]) cfg) cfg (10000000 / period)))

/-- LOSS_OF_SYNC: the tracker is UNLOCKED with P, f and the previous capture kept, the gates are blocked
whatever the station does about it, SYNC_LOSS is counted, and the Sampling Unit runs free from the later of the
sector's nominal end and the loss; then the classifier takes the report and the station reacts (R38, R49, R69,
R70, R160, R165; R12, R14, R15, R18, R19, R23). Instants are compared on the wrapping count (assumption 27). -/
def Obligations.LossOfSyncUnlocksAndBlocks : Prop :=
  ∀ (s : State) (cfg : Configuration) (deadline : Micros), s.port.config = some cfg →
    configurationInRange cfg = true → s.station.StackFits →
    s.tracker.state = .locked → s.tracker.deadline = some deadline → (s.time - deadline).toNat < 2 ^ 31 →
    ∃ m : Sampler,
      exec .lossOfSync s = .next (syncLossTaken
        { counted s [.syncLoss] with
          tracker := { s.tracker with
            state := .unlocked, intervals := [], acquired := 0, anchor := none, next := none, deadline := none
            lastIndex := none }
          sampler := m
          gates := blockedGates s.gates } cfg) ∧
      (s.sampler.mode ≠ .tracked → m = s.sampler) ∧
      (∀ x, s.sampler.mode = .tracked → s.sampler.sector = some x →
        ((s.time - (x.start + BitVec.ofNat 32 (nominalMicros cfg / 6))).toNat < 2 ^ 31 →
          m = { s.sampler with mode := .free, freeTimer := some s.time }) ∧
        (2 ^ 31 < (s.time - (x.start + BitVec.ofNat 32 (nominalMicros cfg / 6))).toNat →
          m = { s.sampler with
            mode := .free, freeTimer := some (x.start + BitVec.ofNat 32 (nominalMicros cfg / 6)) }))

/-! ### Sampling Unit -/

/-- SAMPLE: each window takes its sample at the end and gives up its oldest, the sums grow, the count rises by
1, and no figure changes (R46, R47). -/
def Obligations.SampleEntersWindowsAndSums : Prop :=
  ∀ (s : State) (cfg : Configuration) (plant : PlantInputs) (x : Sector),
    s.port.config = some cfg → s.sampler.sector = some x → x.count < 16 →
    (s.time - (x.start + BitVec.ofNat 32 (x.count * x.base / 96))).toNat < 2 ^ 31 →
    exec (.sample plant) s = .next { s with
      sampler := { s.sampler with
        windowAB := (s.sampler.windowAB ++ [max (-2047) plant.lineAB.toInt]).drop 1
        windowBC := (s.sampler.windowBC ++ [max (-2047) plant.lineBC.toInt]).drop 1
        windowCA := (s.sampler.windowCA ++ [max (-2047) plant.lineCA.toInt]).drop 1
        currentSum := s.sampler.currentSum + plant.current.toNat
        voltageSum := s.sampler.voltageSum + plant.voltage.toNat
        sector := some { x with count := x.count + 1 } } }

namespace Sys2Proof.Machine

/-- A figure set by R52 to R55, written out: each line figure is the clamp at 1500 of an amplitude's floor of a × 1000 / N_pk, the
means are floored twice, and C is the least of I_r, C_volt and C_therm. -/
def figureSetBy (cfg : Configuration) (m : Sampler) (n : Nat) (f : Figures) : Prop :=
  (∃ ab bc ca : Nat,
    ((∀ x ∈ m.windowAB, x.natAbs ≤ ab) ∧ (∃ x ∈ m.windowAB, x.natAbs = ab)) ∧
    ((∀ x ∈ m.windowBC, x.natAbs ≤ bc) ∧ (∃ x ∈ m.windowBC, x.natAbs = bc)) ∧
    ((∀ x ∈ m.windowCA, x.natAbs ≤ ca) ∧ (∃ x ∈ m.windowCA, x.natAbs = ca)) ∧
    f.lineAB = min 1500 (ab * 1000 / cfg.peakCount) ∧ f.lineBC = min 1500 (bc * 1000 / cfg.peakCount) ∧
    f.lineCA = min 1500 (ca * 1000 / cfg.peakCount)) ∧
  f.voltage = min f.lineAB (min f.lineBC f.lineCA) ∧
  f.current = m.currentSum / n * cfg.currentFullScale / 4095 ∧
  f.dcVoltage = m.voltageSum / n * cfg.voltageFullScale / 4095 ∧
  f.sink = m.sink ∧
  (cfg.voltFull ≤ f.voltage → f.capabilityVolt = cfg.rating) ∧
  (f.voltage ≤ cfg.voltFloor → f.capabilityVolt = 0) ∧
  (cfg.voltFloor < f.voltage → f.voltage < cfg.voltFull →
    f.capabilityVolt = cfg.rating * (f.voltage - cfg.voltFloor) / (cfg.voltFull - cfg.voltFloor)) ∧
  (f.sink = none → f.capabilityThermal = cfg.rating) ∧
  (∀ x, f.sink = some x →
    (x ≤ cfg.tDerate → f.capabilityThermal = cfg.rating) ∧ ((cfg.tMax : Int) ≤ x → f.capabilityThermal = 0) ∧
    ((cfg.tDerate : Int) < x → x < cfg.tMax →
      (f.capabilityThermal : Int) = (cfg.rating * (cfg.tMax - x)) / ((cfg.tMax : Int) - cfg.tDerate))) ∧
  f.capability = min cfg.rating (min f.capabilityVolt f.capabilityThermal)

/-- The Sampling Unit after a boundary: the figure set `f` in place with its three conditions, and a new sector begun at
`start` with its sample 0; at every sixth figure set a fitted temperature is converted (R46, R51, R52, R56 to R59). -/
def sectorTurned (cfg : Configuration) (m : Sampler) (f : Figures) (start : Micros) (base : Nat)
    (plant : PlantInputs) : Sampler :=
  { m with
    figures := f
    sink :=
      if m.cycle + 1 < 6 ∨ cfg.temperatureFitted = false then m.sink
      else some (min (max plant.sink (-40)) 200)
    overcurrent := decide (cfg.overcurrent < f.current)
    overTemperature := match f.sink with
      | none => false
      | some x => decide ((cfg.tMax : Int) ≤ x)
    dcLimit := decide (cfg.voltageMax < f.dcVoltage)
    windowAB := (m.windowAB ++ [max (-2047) plant.lineAB.toInt]).drop 1
    windowBC := (m.windowBC ++ [max (-2047) plant.lineBC.toInt]).drop 1
    windowCA := (m.windowCA ++ [max (-2047) plant.lineCA.toInt]).drop 1
    currentSum := plant.current.toNat
    voltageSum := plant.voltage.toNat
    sector := some ⟨start, base, 1⟩
    cycle := if m.cycle + 1 < 6 then m.cycle + 1 else 0 }

end Sys2Proof.Machine

/-- SECTOR_BOUNDARY and FREE_RUNNING_BOUNDARY form the same figure set from the sector that closes, whatever the
six neighbours do with it and in whatever order they act, and begin the next sector; the tracker takes index m + 1
of its schedule as the next boundary, and the allocator takes C, I_meas and the DC-limit condition (R40, R46, R48,
R51 to R59, R148). The cycle count without a fitted channel is the model's reading (assumption 15). -/
def Obligations.BoundaryFormsTheFigureSet : Prop :=
  ∀ (s : State) (cfg : Configuration) (plant : PlantInputs) (order : List Neighbour) (x : Sector),
    s.port.config = some cfg → configurationInRange cfg = true → s.sampler.Sound → s.sampler.sector = some x →
    (∀ b a, s.tracker.state = .locked → s.tracker.anchor = some a → s.tracker.next = some b →
      (s.time - b.time).toNat < 2 ^ 31 →
      ∃ (t : State) (f : Figures), exec (.sectorBoundary plant order) s = .next t ∧
        figureSetBy cfg s.sampler x.count f ∧
        t.sampler = sectorTurned cfg s.sampler f b.time s.tracker.period plant ∧
        t.tracker = { s.tracker with
          next := some (scheduledBoundary cfg a s.tracker.period (b.index + 1))
          lastIndex := some b.index } ∧
        t.allocator.latestC = f.capability ∧ t.allocator.latestI = f.current ∧
        t.allocator.latestDcLimit = decide (cfg.voltageMax < f.dcVoltage) ∧
        t.peers = s.peers ∧ t.filter = s.filter ∧ t.protection = s.protection ∧ t.port = s.port ∧
        t.time = s.time) ∧
    (∀ due, s.sampler.mode = .free → s.sampler.freeTimer = some due → (s.time - due).toNat < 2 ^ 31 →
      ∃ (t : State) (f : Figures), exec (.freeRunningBoundary plant order) s = .next t ∧
        figureSetBy cfg s.sampler x.count f ∧
        t.sampler = { sectorTurned cfg s.sampler f due (nominalMicros cfg) plant with
          freeTimer := some (due + BitVec.ofNat 32 (nominalMicros cfg / 6)) } ∧
        t.allocator.latestC = f.capability ∧ t.allocator.latestI = f.current ∧
        t.allocator.latestDcLimit = decide (cfg.voltageMax < f.dcVoltage) ∧
        t.tracker = s.tracker ∧ t.peers = s.peers ∧ t.filter = s.filter ∧ t.protection = s.protection ∧
        t.port = s.port ∧ t.time = s.time)

namespace Sys2Proof.Machine

/-- An entry stands in a list of firings behind every entry with an earlier or equal fire time, from the front on
(R162). -/
def placedIn (new : PendingFiring) (list placed : List PendingFiring) : Prop :=
  ∃ before after, list = before ++ after ∧ placed = before ++ new :: after ∧
    (∀ g ∈ before, (new.fireTime - g.fireTime).toNat < 2 ^ 31) ∧
    ∀ g, after.head? = some g → 2 ^ 31 ≤ (new.fireTime - g.fireTime).toNat

/-- The double pulse of a thyristor at an instant: its own output and the one before it in firing order get a pulse
of W, or keep a later end (R163). -/
def doublePulsed (cfg : Configuration) (at_ : Micros) (n : Fin 6) (before after : Vector (Option Micros) 6) :
    Prop :=
  ∀ i : Fin 6,
    if i = n ∨ (i.val + 1) % 6 = n.val then
      after[i] = some (match before[i] with
        | none => at_ + BitVec.ofNat 32 cfg.pulseWidth
        | some e =>
          if (e - (at_ + BitVec.ofNat 32 cfg.pulseWidth)).toNat < 2 ^ 31 then e
          else at_ + BitVec.ofNat 32 cfg.pulseWidth)
    else after[i] = before[i]

/-- One update of the regulator with the setpoint and the measured current of a figure set (R155, R156). -/
def updatedRegulator (cfg : Configuration) (r : Regulator) (setpoint current : Nat) : Regulator :=
  let error : Int := min (max ((setpoint : Int) - current) (-32767)) 32767
  let integrator : Int :=
    if (r.clampSide = .low ∧ 0 < error) ∨ (r.clampSide = .high ∧ error < 0) then r.integrator
    else min (max (r.integrator + cfg.gainI * error) (-cfg.integratorLimit)) cfg.integratorLimit
  let angle : Nat :=
    (min (max (cfg.alphaBias - (cfg.gainP * error + integrator).tdiv 256) cfg.alphaMin) cfg.alphaMax).toNat
  { integrator := integrator
    lastAngle := angle
    clampSide := if angle = cfg.alphaMin then .low else if angle = cfg.alphaMax then .high else .none }

/-- The firing of a boundary is scheduled with an angle: in its place by fire time, after the oldest of three entries has
been advanced to the boundary (R162). -/
def firingScheduled (cfg : Configuration) (b : Boundary) (period angle : Nat) (g h : Gates) : Prop :=
  ∀ new : PendingFiring,
    new = ⟨Fin.ofNat 6 b.sector, b.time + BitVec.ofNat 32 (angle * period / 3600), b.time⟩ →
    (g.firings.length < 3 → placedIn new g.firings h.firings ∧ h.outputs = g.outputs) ∧
    (∀ before after old, g.firings.length = 3 → g.firings = before ++ old :: after →
      (∀ f ∈ before ++ after,
        f.scheduledAt ≠ old.scheduledAt ∧ (f.scheduledAt - old.scheduledAt).toNat < 2 ^ 31) →
      placedIn new (before ++ after) h.firings ∧ doublePulsed cfg b.time old.thyristor g.outputs h.outputs)

/-- Neither trip condition of a figure set is reported: it does not hold, or it held at the set before and the
station is TRIPPED (R57, R58). -/
def noTripReported (s : State) (f : Sampler) : Prop :=
  (f.overcurrent = false ∨ (s.sampler.overcurrent = true ∧ s.station.state = .tripped)) ∧
  (f.overTemperature = false ∨ (s.sampler.overTemperature = true ∧ s.station.state = .tripped))

/-- The allocator with a figure set: SP limited to the new C in a firing state (R148). -/
def suppliedAllocator (s : State) (f : Sampler) : Allocator :=
  { s.allocator with
    setpoint :=
      if s.station.state.firing then min s.allocator.setpoint f.figures.capability else s.allocator.setpoint
    latestC := f.figures.capability
    latestI := f.figures.current
    latestDcLimit := f.dcLimit }

/-- A boundary of either timing mode that has come about, with its order of the neighbours (R40, R48). -/
def boundaryComes (s : State) (c : Instr) (order : List Neighbour) (tracked : Bool) : Prop :=
  (tracked = true ∧ ∃ plant b, c = .sectorBoundary plant order ∧ s.tracker.state = .locked ∧
    s.tracker.next = some b ∧ (s.time - b.time).toNat < 2 ^ 31) ∨
  (tracked = false ∧ ∃ plant due, c = .freeRunningBoundary plant order ∧ s.sampler.mode = .free ∧
    s.sampler.freeTimer = some due ∧ (s.time - due).toNat < 2 ^ 31)

/-- In an order of the neighbours, `a` acts before `b`. -/
abbrev actsBefore (order : List Neighbour) (a b : Neighbour) : Prop := order.idxOf a < order.idxOf b

/-- The neighbours that a figure set turns against a station in SYNCING with the classifier NORMAL: the classifier at a
sag, and each trip condition that holds (R12, R26, R57, R58, R66). -/
def standsAgainst (cfg : Configuration) (f : Sampler) (n : Neighbour) : Prop :=
  (n = .classifier ∧ f.figures.voltage < cfg.voltSag) ∨ (n = .overcurrent ∧ f.overcurrent = true) ∨
  (n = .overTemperature ∧ f.overTemperature = true)

end Sys2Proof.Machine

/-- A boundary at the regulator and the generator, in every order of the neighbours, with or without a disturbance. A
station that fires before and after a tracked boundary takes one update with SP limited to the new C; an ENABLED
generator schedules the boundary's firing with the angle of the boundary before and an INHIBITED one schedules nothing,
and then the new angle is latched. A station that stops firing there leaves the gates blocked, and one that does not
fire keeps regulator and generator; an update taken before every transition stays, and one after them is none. On a quiet
grid nothing else changes, and in SYNCING the station starts: a boundary the generator takes after the release schedules
with the entry angle, and one it has taken before leaves the entry angle latched. With a sag or a trip that acts before
the controller it does not start, and behind the start the block leaves the entry angle or the update's. A free-running
boundary reaches neither, in every state (in FREE the tracker is not LOCKED, so SYNCING does not start there); a station
that stops firing blocks its gates (R10, R12, R148, R154 to R157, R159, R161, R162, R165, R167). The order is an operand
(assumption 4), and the clamp comes before it (assumption 5). -/
def Obligations.BoundaryUpdatesSchedulesAndStarts : Prop :=
  (∀ (s t : State) (cfg : Configuration) (plant : PlantInputs) (order : List Neighbour) (b : Boundary)
      (updated : Regulator),
    s.port.config = some cfg → configurationInRange cfg = true →
    s.tracker.state = .locked → s.tracker.next = some b → (s.time - b.time).toNat < 2 ^ 31 → b.sector < 6 →
    exec (.sectorBoundary plant order) s = .next t →
    updated = updatedRegulator cfg s.regulator (min s.allocator.setpoint t.sampler.figures.capability)
      t.sampler.figures.current →
    (s.station.state.firing = true → t.station.state.firing = true →
      t.regulator = updated ∧ t.gates.mode = s.gates.mode ∧ t.gates.latched = some updated.lastAngle ∧
      (∀ angle, s.gates.mode = .enabled → s.gates.latched = some angle →
        firingScheduled cfg b s.tracker.period angle s.gates t.gates) ∧
      (s.gates.mode = .inhibited → t.gates.firings = s.gates.firings ∧ t.gates.outputs = s.gates.outputs)) ∧
    (s.station.state.firing = true → t.station.state.firing = false →
      t.gates.mode = .inhibited ∧ t.gates.firings = [] ∧ (∀ g : Fin 6, t.gates.outputs[g] = none) ∧
      (t.regulator = s.regulator ∨ t.regulator = updated ∨
        (s.station.destination = some .off ∧ t.regulator = ⟨0, cfg.alphaMax, .high⟩)) ∧
      (wholeOrder order = true →
        ((∀ n, n ≠ .regulator → n ≠ .generator → actsBefore order .regulator n) →
          t.regulator = updated ∨
            (s.station.destination = some .off ∧ t.regulator = ⟨0, cfg.alphaMax, .high⟩)) ∧
        ((∀ n, n ≠ .regulator → n ≠ .generator → actsBefore order n .regulator) →
          t.regulator = s.regulator ∨
            (s.station.destination = some .off ∧ t.regulator = ⟨0, cfg.alphaMax, .high⟩)))) ∧
    (s.station.state.firing = false → s.GatesSound →
      s.station.state ≠ .syncing ∨ s.classifier.state ≠ .normal →
      t.regulator = s.regulator ∧ t.gates = s.gates) ∧
    (s.station.state = .syncing → s.classifier.state = .normal → s.station.StackFits → s.GatesSound →
      wholeOrder order = true → (∃ n, standsAgainst cfg t.sampler n) →
      ((∃ n, standsAgainst cfg t.sampler n ∧ actsBefore order n .controller) →
        t.regulator = s.regulator ∧ t.gates = s.gates) ∧
      ((∀ n, standsAgainst cfg t.sampler n → actsBefore order .controller n) →
        t.gates.mode = .inhibited ∧ t.gates.firings = [] ∧ (∀ g : Fin 6, t.gates.outputs[g] = none) ∧
        (actsBefore order .controller .generator → t.gates.latched = some t.regulator.lastAngle) ∧
        (actsBefore order .generator .controller → t.gates.latched = some cfg.alphaMax) ∧
        (actsBefore order .regulator .controller ∨
            (∃ n, standsAgainst cfg t.sampler n ∧ actsBefore order n .regulator) →
          t.regulator = ⟨0, cfg.alphaMax, .high⟩) ∧
        (actsBefore order .controller .regulator →
          (∀ n, standsAgainst cfg t.sampler n → actsBefore order .regulator n) →
          t.regulator = updatedRegulator cfg ⟨0, cfg.alphaMax, .high⟩ 0 t.sampler.figures.current))) ∧
    (s.classifier.state = .normal → cfg.voltSag ≤ t.sampler.figures.voltage →
      t.sampler.overcurrent = false → t.sampler.overTemperature = false →
      (s.station.state.firing = true →
        (s.station.state = .stopping → 0 < min s.allocator.setpoint t.sampler.figures.capability ∨
          cfg.currentZero < t.sampler.figures.current) →
        t = { s with
          tracker := t.tracker
          sampler := t.sampler
          allocator := suppliedAllocator s t.sampler
          regulator := updated
          gates := { s.gates with
            latched := some updated.lastAngle, firings := t.gates.firings, outputs := t.gates.outputs } }) ∧
      (s.station.state = .syncing → s.station.StackFits → s.GatesSound → wholeOrder order = true →
        t = { s with
          tracker := t.tracker
          sampler := t.sampler
          station := enteredStation .starting s.time
          allocator := { suppliedAllocator s t.sampler with setpoint := 0 }
          regulator := t.regulator
          gates := { s.gates with
            mode := .enabled, latched := t.gates.latched, firings := t.gates.firings } } ∧
        (actsBefore order .regulator .controller → t.regulator = ⟨0, cfg.alphaMax, .high⟩) ∧
        (actsBefore order .controller .regulator →
          t.regulator = updatedRegulator cfg ⟨0, cfg.alphaMax, .high⟩ 0 t.sampler.figures.current) ∧
        (actsBefore order .controller .generator →
          t.gates.latched = some t.regulator.lastAngle ∧
          t.gates.firings = [⟨Fin.ofNat 6 b.sector,
            b.time + BitVec.ofNat 32 (cfg.alphaMax * s.tracker.period / 3600), b.time⟩]) ∧
        (actsBefore order .generator .controller →
          t.gates.latched = some cfg.alphaMax ∧ t.gates.firings = [])))) ∧
  (∀ (s t : State) (cfg : Configuration) (plant : PlantInputs) (order : List Neighbour), s.port.config = some cfg →
    configurationInRange cfg = true → exec (.freeRunningBoundary plant order) s = .next t →
    (s.station.state.firing = true → t.station.state.firing = true →
      t.regulator = s.regulator ∧ t.gates = s.gates) ∧
    (s.station.state.firing = true → t.station.state.firing = false →
      t.gates = blockedGates s.gates ∧
      (t.regulator = s.regulator ∨
        (s.station.destination = some .off ∧ t.regulator = ⟨0, cfg.alphaMax, .high⟩))) ∧
    (s.station.state.firing = false → s.GatesSound →
      s.station.state ≠ .syncing ∨ s.classifier.state ≠ .normal ∨ s.tracker.state ≠ .locked →
      t.regulator = s.regulator ∧ t.gates = s.gates))

/-! ### Disturbances at the station -/

/-- A figure set of either timing mode, in every order of the neighbours, as the classifier and the station take it.
With no trip reported the classifier takes v by R66, R70, R71, R73 and R74 and the station reacts by R10, R12, R14,
R15, R18, R19 and R23, a record pushed holding the setpoint before the capability clamp (R13) and the integrator
after the boundary's update when the regulator acts before the classifier, before it otherwise (R157); a station in
SYNCING with the start condition starts, or is back in SYNCING or never leaves it at a sag, as the order has it; a station
whose STOPPING ends enters its destination; the classifier does the same whatever the station does; and a trip
condition trips the station, with its record, ALERT TRIP and event TRIP, or raises the later-trip count (R8, R26, R57,
R58, R180, R181). The order is an operand (assumption 4), the clamp comes before it (assumption 5), and both trip
conditions are decided first (assumption 16). -/
def Obligations.FigureSetMovesClassifierAndStation : Prop :=
  ∀ (s t u : State) (cfg : Configuration) (c : Instr) (order : List Neighbour) (tracked : Bool),
    s.port.config = some cfg → configurationInRange cfg = true → s.station.StackFits →
    boundaryComes s c order tracked → exec c s = .next t →
    u = { s with sampler := t.sampler, allocator := suppliedAllocator s t.sampler } →
    t.classifier = (figureTaken u cfg t.sampler.figures.voltage s.allocator.setpoint).classifier ∧
    (noTripReported s t.sampler →
      (s.station.state = .syncing → s.classifier.state ≠ .normal ∨ s.tracker.state ≠ .locked) →
      (s.station.state = .stopping → 0 < min s.allocator.setpoint t.sampler.figures.capability ∨
        cfg.currentZero < t.sampler.figures.current) →
      ∃ (integrator : Int) (r : State),
        (integrator = s.regulator.integrator ∨ integrator = t.regulator.integrator) ∧
        (wholeOrder order = true →
          integrator = if tracked = true ∧ actsBefore order .regulator .classifier then t.regulator.integrator
            else s.regulator.integrator) ∧
        r = figureTaken { u with regulator := { s.regulator with integrator := integrator } }
          cfg t.sampler.figures.voltage s.allocator.setpoint ∧
        t.classifier = r.classifier ∧ t.station = r.station ∧ t.allocator = r.allocator ∧ t.line = r.line ∧
        t.events = r.events ∧ t.fault = s.fault ∧ t.gates.mode = r.gates.mode) ∧
    (noTripReported s t.sampler → s.station.state = .syncing → s.classifier.state = .normal →
      s.tracker.state = .locked →
      t.events = (figureTaken u cfg t.sampler.figures.voltage s.allocator.setpoint).events ∧ t.line = s.line ∧
      t.fault = s.fault ∧
      (cfg.voltSag ≤ t.sampler.figures.voltage →
        t.station = enteredStation .starting s.time ∧ t.allocator = { u.allocator with setpoint := 0 } ∧
        t.gates.mode = .enabled) ∧
      (t.sampler.figures.voltage < cfg.voltSag → wholeOrder order = true →
        (actsBefore order .classifier .controller → t.station = s.station ∧ t.allocator = u.allocator) ∧
        (actsBefore order .controller .classifier →
          t.station = enteredStation .syncing s.time ∧ t.allocator = { u.allocator with setpoint := 0 }))) ∧
    (noTripReported s t.sampler → s.station.state = .stopping →
      min s.allocator.setpoint t.sampler.figures.capability = 0 → t.sampler.figures.current ≤ cfg.currentZero →
      t.station = (arrivedFrom u cfg).station ∧ t.line = (arrivedFrom u cfg).line ∧
      t.allocator = (arrivedFrom u cfg).allocator ∧ t.fault = s.fault ∧
      t.events = (figureTaken u cfg t.sampler.figures.voltage s.allocator.setpoint).events ∧
      (s.station.destination ≠ none →
        t.allocator.setpoint = 0 ∧ t.gates.mode = .inhibited ∧ t.gates.firings = [] ∧
        ∀ g : Fin 6, t.gates.outputs[g] = none)) ∧
    (s.FaultSound → s.station.state ≠ .tripped → s.station.state ≠ .unconfigured →
      t.sampler.overcurrent = true ∨ t.sampler.overTemperature = true →
      ∃ p : TripPicture,
        t.fault = ⟨some p, if t.sampler.overcurrent ∧ t.sampler.overTemperature then 1 else 0⟩ ∧
        (p.cause = .dcOvercurrent ∧ t.sampler.overcurrent = true ∨
          p.cause = .overTemperature ∧ t.sampler.overTemperature = true) ∧
        p.current = t.sampler.figures.current ∧ p.voltage = t.sampler.figures.voltage ∧
        p.sink = t.sampler.figures.sink ∧ p.tracker = s.tracker.state ∧
        (s.classifier.state = .normal → cfg.voltSag ≤ t.sampler.figures.voltage →
          s.station.state ≠ .syncing → s.station.state ≠ .stopping →
          p.stateBefore = s.station.state ∧ p.setpoint = (suppliedAllocator s t.sampler).setpoint ∧
          p.contextDepth = s.station.stack.length) ∧
        (s.station.state = .syncing → s.classifier.state = .normal → s.tracker.state = .locked →
          cfg.voltSag ≤ t.sampler.figures.voltage → wholeOrder order = true →
          ((∃ n, standsAgainst cfg t.sampler n ∧ actsBefore order n .controller) → p.stateBefore = .syncing) ∧
          ((∀ n, standsAgainst cfg t.sampler n → actsBefore order .controller n) → p.stateBefore = .starting)) ∧
        t.station = enteredStation .tripped s.time ∧ t.allocator.setpoint = 0 ∧
        t.gates.mode = .inhibited ∧ t.gates.firings = [] ∧ (∀ g : Fin 6, t.gates.outputs[g] = none) ∧
        (s.events.counters[9] < 255 → t.events.counters[9] = s.events.counters[9] + 1) ∧
        (255 ≤ s.events.counters[9] → t.events.overflow[9] = true) ∧
        (t.line.alertQueue.getLast? = some ⟨.alert (alertOf t .trip 9 s.allocator.demand), s.time⟩ ∨
          4 ≤ t.line.alertQueue.length ∧
            (s.events.counters[18] < 255 → s.events.counters[18] < t.events.counters[18])) ∧
        (s.classifier.state = .normal → cfg.voltSag ≤ t.sampler.figures.voltage →
          s.station.state ≠ .syncing → s.station.state ≠ .stopping →
          ∀ v, (s.station.state = .off → v = departedOff s) → (s.station.state ≠ .off → v = s) →
            t.line = (alerted v (alertOf t .trip 9 s.allocator.demand)).line ∧
            t.events = (counted (alerted v (alertOf t .trip 9 s.allocator.demand)) [.trip]).events)) ∧
    (s.FaultSound → s.station.state = .tripped →
      t.station = s.station ∧
      t.fault = { s.fault with
        laterTrips := min 255 (s.fault.laterTrips +
          (if t.sampler.overcurrent = true ∧ s.sampler.overcurrent = false then 1 else 0) +
          (if t.sampler.overTemperature = true ∧ s.sampler.overTemperature = false then 1 else 0)) })

namespace Sys2Proof.Machine

/-- The classifier in NORMAL after a disturbance: the out-of-band count and the latest figure are kept (R75). -/
def clearedClassifier (c : Classifier) : Classifier :=
  { c with
    state := .normal, active := ⟨false, false, false, false⟩, onset := none, elapsed := none, confirm := none
    frequencyTimer := none }

end Sys2Proof.Machine

/-- RECOVERY_CONFIRM_TIMER_EXPIRY ends the disturbance: a riding or blocked station restarts with the integrator
of its top record, SP at the lesser of I_meas and C and the gates released at the rest angle; a SYNCING station
with the tracker LOCKED starts; every other station stays (R10, R16, R75, R153). -/
def Obligations.RecoveryEndsTheDisturbance : Prop :=
  ∀ (s : State) (cfg : Configuration) (started : Micros),
    s.port.config = some cfg → configurationInRange cfg = true → s.station.StackFits →
    s.classifier.state = .recovering → s.classifier.confirm = some started →
    cfg.tRecovery * 1000 ≤ (s.time - started).toNat →
    (s.station.state = .ride ∨ s.station.state = .blocked → ∀ top, s.station.stack.getLast? = some top →
      ∃ angle : Nat,
        (angle : Int) = min (max (cfg.alphaBias - top.integrator.tdiv 256) cfg.alphaMin) cfg.alphaMax ∧
        exec .recoveryConfirmTimerExpiry s = .next { s with
          classifier := clearedClassifier s.classifier
          station := { enteredStation .restart s.time with stack := s.station.stack }
          allocator := { s.allocator with setpoint := min s.allocator.latestI s.allocator.latestC }
          regulator :=
            { integrator := top.integrator
              lastAngle := angle
              clampSide :=
                if angle = cfg.alphaMin then .low else if angle = cfg.alphaMax then .high else .none }
          gates := { s.gates with mode := .enabled, latched := some angle } }) ∧
    (s.station.state = .syncing → s.tracker.state = .locked →
      exec .recoveryConfirmTimerExpiry s = .next { s with
        classifier := clearedClassifier s.classifier
        station := enteredStation .starting s.time
        allocator := { s.allocator with setpoint := 0 }
        regulator := { integrator := 0, lastAngle := cfg.alphaMax, clampSide := .high }
        gates := { s.gates with mode := .enabled, latched := some cfg.alphaMax } }) ∧
    (s.station.state ≠ .ride → s.station.state ≠ .blocked →
      s.station.state ≠ .syncing ∨ s.tracker.state ≠ .locked →
      exec .recoveryConfirmTimerExpiry s = .next { s with classifier := clearedClassifier s.classifier })

/-- FREQUENCY_TIMER_EXPIRY moves the classifier to OUTSIDE and counts BLOCK; a riding station blocks with its
stack kept and ALERT BLOCK, a station in STOPPING enters its destination, and a station that does not fire stays
(R15, R23, R72). -/
def Obligations.FrequencyTimerTakesTheGridOutside : Prop :=
  ∀ (s : State) (cfg : Configuration) (started : Micros),
    s.port.config = some cfg → configurationInRange cfg = true → s.station.StackFits →
    s.classifier.state = .disturbed → s.classifier.frequencyTimer = some started →
    cfg.tFrequencyMax * 1000 ≤ (s.time - started).toNat →
    s.station.state = .ride ∨ s.station.state = .stopping ∨ s.station.state = .off ∨
        s.station.state = .syncing ∨ s.station.state = .blocked ∨ s.station.state = .standby ∨
        s.station.state = .tripped →
    exec .frequencyTimerExpiry s = .next (wentOutside s cfg s.classifier.active s.allocator.setpoint)

/-- BLOCKED_TIMER_EXPIRY takes a station that has been BLOCKED for T_block_max to STANDBY with origin
BLOCK_TIMEOUT and ALERT STANDBY; LOW_LOAD_TIMER_EXPIRY takes a running station to STOPPING toward STANDBY (R20,
R24). That the low-load expiry is a command of its own is the model's reading (assumption 9). -/
def Obligations.ControllerTimersTakeTheStationDown : Prop :=
  ∀ (s : State) (cfg : Configuration), s.port.config = some cfg →
    (∀ started, s.station.state = .blocked → s.station.blockedSince = some started →
      cfg.tBlockMax * 1000 ≤ (s.time - started).toNat →
      exec .blockedTimerExpiry s =
        .next (counted (alerted (standbyFrom s .blockTimeout) (alertOf s .standby 8 0)) [.blockTimeout])) ∧
    (s.station.state = .run → s.station.lowLoadRunning = true → cfg.tLow ≤ s.station.lowLoadMs →
      exec .lowLoadTimerExpiry s = .next (stoppingFrom (counted s [.lowLoad]) .standby (some .lowLoad)))

/-! ### Cover Allocator -/

namespace Sys2Proof.Machine

/-- The demand of an update: a pending demand becomes D first (R134, step 1 of R136). -/
def demandAtUpdate (a : Allocator) : Nat :=
  match a.pendingDemand with
  | none => a.demand
  | some d => d

/-- The elapsed milliseconds of an update (R135). -/
def elapsedAtUpdate (a : Allocator) : Nat :=
  match a.lastUpdate with
  | none => 0
  | some u => (a.ms - u.2).toNat

/-- One shortfall contribution per entry (R123). -/
def shortfallsOf (peers : List Peer) : List Nat :=
  peers.map fun p =>
    if p.status ≠ .lost then p.shortfall
    else if p.lastState = 4 ∨ p.lastState = 5 ∨ p.lastState = 6 ∨ p.lastState = 9 then p.demand
    else 0

/-- One headroom contribution per entry (R123). -/
def headroomsOf (peers : List Peer) : List Nat := peers.map fun p => if p.status = .fresh then p.headroom else 0

/-- One delivered contribution per entry (R123). -/
def deliveriesOf (peers : List Peer) : List Nat :=
  peers.map fun p =>
    if p.status ≠ .lost ∧
        (p.lastState = 2 ∨ p.lastState = 3 ∨ p.lastState = 4 ∨ p.lastState = 6 ∨ p.lastState = 7) then
      p.delivered
    else 0

/-- The setpoint that step 7 leaves with the rising step `up` (R142, R143). -/
def setpointMoved (a : Allocator) (up down target : Nat) : Nat :=
  if a.setpoint < target then
    if a.latestDcLimit then min a.setpoint a.latestC else min (min target (a.setpoint + up)) a.latestC
  else min (max target (a.setpoint - down)) a.latestC

end Sys2Proof.Machine

/-- SHARE_UPDATE in a state that no completion test leaves: the figures of R137 to R142 from the demand of the
update and the contributions of R123, the events and markers of R143 and R144, the frame placed (R86, R145), the
record of the update and the low-load timer (R24, R134 to R136, R146). That the update which carries the timer to T_low
leaves the station in RUN, and LOW_LOAD_TIMER_EXPIRY moves it, is the model's reading (assumption 9). -/
def Obligations.ShareUpdateSharesOutTheShortfall : Prop :=
  ∀ (s : State) (cfg : Configuration) (due : Micros) (steps : Steps) (demand own spare : Nat),
    s.port.config = some cfg → s.allocator.shareTimer = some due → (s.time - due).toNat < 2 ^ 31 →
    s.allocator.steps = some steps → demand = demandAtUpdate s.allocator →
    s.station.state = .syncing ∨ s.station.state = .run ∨ s.station.state = .ride ∨
      s.station.state = .blocked ∨ s.station.state = .standby ∨ s.station.state = .tripped →
    (s.station.state = .run → own = demand - s.allocator.latestC) →
    (s.station.state = .ride ∨ s.station.state = .blocked → own = demand - min s.allocator.setpoint demand) →
    (s.station.state = .tripped → own = demand) → (s.station.state = .syncing → own = 0) →
    (s.station.state = .standby → own = if s.station.standbyOrigin = some .protection then demand else 0) →
    (spare = if s.station.state = .run ∧ cfg.coverEnabled = true then
      min s.allocator.latestC (demand + cfg.coverLimit) - demand else 0) →
    ∃ t, exec .shareUpdate s = .next t ∧
      t = { s with
        allocator := t.allocator
        events := (counted s
          ((if (s.station.state = .run ∨ s.station.state = .ride) ∧ s.allocator.latestDcLimit = true ∧
              s.allocator.setpoint < t.allocator.target ∧ s.allocator.dcHoldMarker = false
            then [.dcVoltageLimit] else []) ++
          (if s.station.state = .run ∧ s.allocator.latestC < demand ∧ s.allocator.capabilityMarker = false
            then [.capabilityLimit] else []) ++
          (if s.line.shareSlot = none then [] else [.txDropped]))).events
        line := { s.line with
          shareSlot := some
            { stateCode := stateNumber s.station.state
              sharePeriod := cfg.sharePeriod
              voltage := s.sampler.figures.voltage
              demand := demand
              delivered := s.sampler.figures.current
              capability := s.sampler.figures.capability
              shortfall := own
              headroom := spare
              cover := t.allocator.cover } }
        station := if s.station.state = .run then
            { s.station with
              lowLoadMs := if t.allocator.groupDelivered < cfg.plantMinimum then
                s.station.lowLoadMs + elapsedAtUpdate s.allocator else 0 }
          else s.station } ∧
      t.allocator = { s.allocator with
        demand := demand
        pendingDemand := none
        shortfall := own
        headroom := spare
        shortfallSum := own + (shortfallsOf s.peers).sum
        headroomSum := spare + (headroomsOf s.peers).sum
        groupDelivered :=
          (if s.station.state = .run ∨ s.station.state = .ride then s.allocator.latestI else 0) +
            (deliveriesOf s.peers).sum
        cover := t.allocator.cover
        target := t.allocator.target
        setpoint := if s.station.state = .run ∨ s.station.state = .ride then
            setpointMoved s.allocator steps.up steps.down t.allocator.target
          else s.allocator.setpoint
        dcHoldMarker := s.allocator.latestDcLimit && (s.allocator.dcHoldMarker ||
          decide ((s.station.state = .run ∨ s.station.state = .ride) ∧
            s.allocator.setpoint < t.allocator.target))
        capabilityMarker := decide (s.station.state = .run ∧ s.allocator.latestC < demand)
        lastUpdate := some (s.time, s.allocator.ms)
        shareTimer := some (due + BitVec.ofNat 32 (cfg.sharePeriod * 1000)) } ∧
      (s.station.state ≠ .run ∨ spare = 0 ∨ t.allocator.shortfallSum = 0 → t.allocator.cover = 0) ∧
      (s.station.state = .run → spare ≠ 0 → t.allocator.shortfallSum ≠ 0 →
        (t.allocator.headroomSum ≤ t.allocator.shortfallSum → t.allocator.cover = spare) ∧
        (t.allocator.shortfallSum < t.allocator.headroomSum →
          t.allocator.cover = t.allocator.shortfallSum * spare / t.allocator.headroomSum)) ∧
      (s.station.state = .run → t.allocator.target = min demand s.allocator.latestC + t.allocator.cover) ∧
      (s.station.state = .ride → t.allocator.target = min demand s.allocator.latestC) ∧
      (s.station.state ≠ .run → s.station.state ≠ .ride → t.allocator.target = 0)

namespace Sys2Proof.Machine

/-- The events of an update in a ramping state: a rise held with the marker clear, and a SHARE frame replaced (R86,
R143). -/
def rampEvents (s : State) (goal : Nat) : List EventKind :=
  (if s.allocator.latestDcLimit = true ∧ s.allocator.setpoint < goal ∧ s.allocator.dcHoldMarker = false
    then [.dcVoltageLimit] else []) ++
  (if s.line.shareSlot = none then [] else [.txDropped])

/-- Steps 1 to 9 of an update in a ramping state, with the target `goal`, the own shortfall `own` and the new setpoint:
no headroom and no cover, one contribution per entry to each sum, both markers, the record of the update, and the whole
frame (R86, R123, R134, R135, R137 to R145). -/
def rampedFrom (s : State) (cfg : Configuration) (due : Micros) (demand goal own setpoint : Nat) : State :=
  { s with
    events := (counted s (rampEvents s goal)).events
    line := { s.line with
      shareSlot := some
        { stateCode := stateNumber s.station.state
          sharePeriod := cfg.sharePeriod
          voltage := s.sampler.figures.voltage
          demand := demand
          delivered := s.sampler.figures.current
          capability := s.sampler.figures.capability
          shortfall := own
          headroom := 0
          cover := 0 } }
    allocator := { s.allocator with
      demand := demand
      pendingDemand := none
      setpoint := setpoint
      target := goal
      shortfall := own
      headroom := 0
      cover := 0
      shortfallSum := own + (shortfallsOf s.peers).sum
      headroomSum := (headroomsOf s.peers).sum
      groupDelivered := s.allocator.latestI + (deliveriesOf s.peers).sum
      dcHoldMarker := s.allocator.latestDcLimit && (s.allocator.dcHoldMarker || decide (s.allocator.setpoint < goal))
      capabilityMarker := false
      lastUpdate := some (s.time, s.allocator.ms)
      shareTimer := some (due + BitVec.ofNat 32 (cfg.sharePeriod * 1000)) } }

end Sys2Proof.Machine

/-- SHARE_UPDATE in the ramping states, whole: steps 1 to 9 with the figures of R137 to R139, the events, the markers and
the frame, and then the end test. STARTING and RESTART move the setpoint toward min(D, C) by their own rising step and
enter RUN when it reaches the target, or the lesser of the target and the bottom record's SP at entry, RESTART with ALERT
RECOVERED and event RECOVERED; STOPPING descends to 0 and enters its destination, in OFF without the frame just placed.
In OFF only the timer is set again (R7, R11, R17, R23, R83, R86, R134 to R146). -/
def Obligations.ShareUpdateEndsTheRamps : Prop :=
  ∀ (s u : State) (cfg : Configuration) (due : Micros) (steps : Steps) (demand goal own setpoint : Nat),
    s.port.config = some cfg → s.allocator.shareTimer = some due → (s.time - due).toNat < 2 ^ 31 →
    configurationInRange cfg = true → s.allocator.steps = some steps → demand = demandAtUpdate s.allocator →
    s.station.StackFits → u = rampedFrom s cfg due demand goal own setpoint →
    (s.station.state = .off →
      exec .shareUpdate s = .next { s with
        allocator := { s.allocator with
          shareTimer := some (due + BitVec.ofNat 32 (cfg.sharePeriod * 1000)) } }) ∧
    (s.station.state = .starting → goal = min demand s.allocator.latestC → own = 0 →
      setpoint = setpointMoved s.allocator steps.up steps.down goal →
      (setpoint = goal → exec .shareUpdate s = .next { u with station := enteredStation .run s.time }) ∧
      (setpoint ≠ goal → exec .shareUpdate s = .next u)) ∧
    (∀ bottom, s.station.state = .restart → s.station.stack.head? = some bottom →
      goal = min demand s.allocator.latestC → own = demand - min s.allocator.setpoint demand →
      setpoint = setpointMoved s.allocator steps.restart steps.down goal →
      (min goal bottom.setpointAtEntry ≤ setpoint →
        exec .shareUpdate s = .next (counted
          (alerted { u with station := enteredStation .run s.time }
            (alertOf s .recovered 3 (demand - s.sampler.figures.capability))) [.recovered])) ∧
      (setpoint < min goal bottom.setpointAtEntry → exec .shareUpdate s = .next u)) ∧
    (s.station.state = .stopping → goal = 0 → own = 0 →
      setpoint = min (s.allocator.setpoint - steps.down) s.allocator.latestC →
      (0 < setpoint ∨ cfg.currentZero < s.sampler.figures.current → exec .shareUpdate s = .next u) ∧
      (setpoint = 0 → s.sampler.figures.current ≤ cfg.currentZero →
        exec .shareUpdate s = .next (arrivedFrom u cfg)))

/-! ### Protection inputs and trips -/

namespace Sys2Proof.Machine

/-- The configured edge is found between two samples (R171). -/
def edgeFound (edge : ProtectionEdge) (before after : Bool) : Prop :=
  ((edge = .rising ∨ edge = .both) ∧ before = false ∧ after = true) ∨
  ((edge = .falling ∨ edge = .both) ∧ before = true ∧ after = false)

/-- The state with a new sample of input `n` as its level, the one of its microsecond (R170). -/
def sampledInput (s : State) (n : Fin 4) (level : Bool) : State :=
  { s with protection := s.protection.set n { s.protection[n] with level := level, sampled := true } }

/-- The picture of R180. -/
def pictureOf (s : State) (cause : TripCause) : TripPicture where
  cause := cause
  stateBefore := s.station.state
  setpoint := s.allocator.setpoint
  current := s.sampler.figures.current
  voltage := s.sampler.figures.voltage
  lastAngle := s.regulator.lastAngle
  sink := s.sampler.figures.sink
  contextDepth := s.station.stack.length
  tracker := s.tracker.state
  classifier := s.classifier.state
  freshPeers := s.peers.countP fun p => decide (p.status = .fresh)

/-- A trip taken in a state other than OFF, UNCONFIGURED and TRIPPED with a record that is not valid (R26, R180). -/
def trippedFrom (s : State) (cause : TripCause) : State :=
  { counted (alerted (blockedFrom s .tripped) (alertOf s .trip 9 s.allocator.demand)) [.trip] with
    fault := ⟨some (pictureOf s cause), 0⟩ }

end Sys2Proof.Machine

/-- PROTECTION_EDGE: the sample becomes the level in every state; without the configured edge, or without a
configuration, nothing else happens; REPORT counts, STANDBY acts in SYNCING, BLOCKED and the firing states, TRIP
trips, and in TRIPPED only raises the later-trip count. An input whose sample of this microsecond has been taken is not
sampled again (R8, R25, R26, R170, R171, R180, R181). The command carries the sampled level (assumption 24). -/
def Obligations.ProtectionEdgeActsByItsAction : Prop :=
  ∀ (s u : State) (n : Fin 4) (level : Bool), u = sampledInput s n level →
    (s.protection[n].sampled = true → exec (.protectionEdge n level) s = .next s) ∧
    (s.protection[n].sampled = false → s.port.config = none ∨ ¬ edgeFound s.protection[n].edge s.protection[n].level level →
      exec (.protectionEdge n level) s = .next u) ∧
    (∀ cfg, s.protection[n].sampled = false → s.port.config = some cfg →
      edgeFound s.protection[n].edge s.protection[n].level level →
      (s.protection[n].action = .report →
        exec (.protectionEdge n level) s = .next (counted u [.protectionReport])) ∧
      (s.protection[n].action = .standby →
        (s.station.state = .off ∨ s.station.state = .standby ∨ s.station.state = .tripped →
          exec (.protectionEdge n level) s = .next u) ∧
        (s.station.state = .syncing ∨ s.station.state = .blocked ∨ s.station.state = .starting ∨
            s.station.state = .run ∨ s.station.state = .ride ∨ s.station.state = .restart ∨
            s.station.state = .stopping →
          exec (.protectionEdge n level) s =
            .next (alerted (standbyFrom u .protection) (alertOf s .standby 8 s.allocator.demand)))) ∧
      (s.protection[n].action = .trip →
        (s.station.state = .tripped →
          exec (.protectionEdge n level) s =
            .next { u with fault := { s.fault with laterTrips := min 255 (s.fault.laterTrips + 1) } }) ∧
        (s.station.state ≠ .tripped → s.station.state ≠ .off → s.station.state ≠ .unconfigured →
          s.fault.picture = none →
          exec (.protectionEdge n level) s = .next (trippedFrom u (.protection n))) ∧
        (s.station.state = .off → s.fault.picture = none →
          exec (.protectionEdge n level) s = .next (trippedFrom { u with
              line := { s.line with
                alertQueue := s.line.alertQueue.filter fun q => decide (q.body ≠ .leave)
                nextSequence := 0
                firstFlag := true } } (.protection n)))))

/-! ### Gate pulses -/

/-- FIRING removes the first entry and starts the double pulse: its own output and the one before it in firing
order get a pulse of W, and a pulse already given on one of them ends at the later of the two ends (R163).
PULSE_END deasserts its output at its pulse end (R164). That it changes nothing before is the model's reading
(assumption 3). -/
def Obligations.FiringPulsesTwoOutputsAndPulseEndDeasserts : Prop :=
  (∀ (s : State) (cfg : Configuration) (f : PendingFiring) (rest : List PendingFiring),
    s.port.config = some cfg → s.gates.firings = f :: rest → (s.time - f.fireTime).toNat < 2 ^ 31 →
    ∃ g : Gates, exec .firing s = .next { s with gates := g } ∧
      g.mode = s.gates.mode ∧ g.latched = s.gates.latched ∧ g.firings = rest ∧
      ∀ i : Fin 6,
        (i = f.thyristor ∨ i.val + 1 = f.thyristor.val ∨ (f.thyristor.val = 0 ∧ i.val = 5) →
          (s.gates.outputs[i] = none → g.outputs[i] = some (s.time + BitVec.ofNat 32 cfg.pulseWidth)) ∧
          (∀ e, s.gates.outputs[i] = some e →
            ((e - (s.time + BitVec.ofNat 32 cfg.pulseWidth)).toNat < 2 ^ 31 → g.outputs[i] = some e) ∧
            (2 ^ 31 ≤ (e - (s.time + BitVec.ofNat 32 cfg.pulseWidth)).toNat →
              g.outputs[i] = some (s.time + BitVec.ofNat 32 cfg.pulseWidth)))) ∧
        (i ≠ f.thyristor → i.val + 1 ≠ f.thyristor.val → ¬ (f.thyristor.val = 0 ∧ i.val = 5) →
          g.outputs[i] = s.gates.outputs[i])) ∧
  (∀ (s : State) (i : Fin 6) (e : Micros), s.gates.outputs[i] = some e →
    ((s.time - e).toNat < 2 ^ 31 →
      exec (.pulseEnd i) s =
        .next { s with gates := { s.gates with outputs := s.gates.outputs.set i none } }) ∧
    (2 ^ 31 ≤ (s.time - e).toNat → exec (.pulseEnd i) s = .next s))

/-! ### Share line -/

/-- SEEKING_END and INTERFRAME_GAP_END make the line QUIET at the present time, LINE_BUSY opens a frame under
assembly, and FRAME_ABANDONED hands the frame under assembly to the filter as malformed and makes the line QUIET
(R79, R80, R103). The commands carry no intervals: their sender judges them (assumption 11). -/
def Obligations.LineViewFollowsTheLine : Prop :=
  ∀ s : State,
    (s.line.view = .seeking →
      exec .seekingEnd s =
        .next { s with line := { s.line with view := .quiet, quietAt := some s.time, slotTaken := false } }) ∧
    (s.line.view ≠ .seeking → exec .seekingEnd s = .next s) ∧
    (s.line.view = .quiet ∨ s.line.view = .busy → s.line.assembly = none → s.line.transmission = none →
      exec .lineBusy s = .next { s with line := { s.line with view := .busy, assembly := some ⟨[], false⟩ } }) ∧
    (s.line.view = .busy → s.line.assembly = none → s.line.transmission = none →
      exec .interframeGapEnd s =
        .next { s with line := { s.line with view := .quiet, quietAt := some s.time, slotTaken := false } }) ∧
    (s.port.config ≠ none → s.line.view = .busy → s.line.assembly ≠ none →
      exec .frameAbandoned s = .next { counted s [.frameError] with
        line := { s.line with view := .quiet, quietAt := some s.time, assembly := none, slotTaken := false }
        filter := { s.filter with checkErrors := s.filter.checkErrors + 1 } })

/-- ACCESS_SLOT starts the head of the alert queue in the station's alert slot, and the SHARE frame in its SHARE
slot when no alert waits, with number, group, flag and sequence filled in; in every other slot nothing starts, and
a slot once taken starts nothing more (R81, R82, R96). FRAME_COMPLETED consumes the sequence number, disarms the
flag and clears the collision count (R87). That the start of a frame makes the line BUSY at once, and how a taken
slot is held, are the model's readings (assumptions 12 and 32). -/
def Obligations.AccessSlotStartsTheDueFrame : Prop :=
  (∀ (s : State) (cfg : Configuration) (quiet : Micros) (offset : Nat), s.port.config = some cfg →
    s.line.view = .quiet → s.line.quietAt = some quiet → s.line.transmission = none →
    offset = (s.time - quiet).toNat % 64 →
    (∀ head tail, s.line.alertQueue = head :: tail → s.line.slotTaken = false → offset = 2 * cfg.station →
      exec .accessSlot s = .next { s with line := { s.line with
        view := .busy
        alertQueue := tail
        transmission := some
          ⟨cfg.station, cfg.group, s.line.firstFlag, s.line.nextSequence, head.body⟩
        slotTaken := true } }) ∧
    (∀ share, s.line.alertQueue = [] → s.line.shareSlot = some share → s.line.slotTaken = false →
      offset = 32 + 2 * cfg.station →
      exec .accessSlot s = .next { s with line := { s.line with
        view := .busy
        shareSlot := none
        transmission := some
          ⟨cfg.station, cfg.group, s.line.firstFlag, s.line.nextSequence, .share share⟩
        slotTaken := true } }) ∧
    (s.line.slotTaken = false →
      (offset = 2 * cfg.station ∧ s.line.alertQueue = []) ∨
        (offset = 32 + 2 * cfg.station ∧ (s.line.alertQueue ≠ [] ∨ s.line.shareSlot = none)) →
      exec .accessSlot s = .next { s with line := { s.line with slotTaken := true } }) ∧
    (s.line.slotTaken = true ∨ (offset ≠ 2 * cfg.station ∧ offset ≠ 32 + 2 * cfg.station) →
      exec .accessSlot s = .next s)) ∧
  (∀ (s : State) (f : Frame), s.line.transmission = some f →
    exec .frameCompleted s = .next { s with line := { s.line with
      transmission := none
      nextSequence := s.line.nextSequence + 1
      firstFlag := false
      collisions := 0 } })

namespace Sys2Proof.Machine

/-- A trip cause reported in TRIPPED: the later-trip count rises, stopping at 255 (R26, R181). -/
def trippedAgain (s : State) : State :=
  { s with fault := { s.fault with laterTrips := min 255 (s.fault.laterTrips + 1) } }

/-- A frame that the framing stage discards (R103). -/
def discarded (s : State) : State :=
  { counted s [.frameError] with filter := { s.filter with checkErrors := s.filter.checkErrors + 1 } }

/-- The frame in transmission is given up, COLLISION is counted and the collision count rises, staying at 3 (R88). -/
def gaveUp (s : State) : State :=
  { counted s [.collision] with
    line := { s.line with transmission := none, collisions := min 3 (s.line.collisions + 1) } }

/-- The characters of `f` up to the one at `k` that differed begin a frame under assembly; with the last character they
are a whole frame whose check or stop bit is wrong, which is handed over and discarded (R80, R88, R89, R103). -/
def readbackTaken (s : State) (f : Frame) (k : Nat) (c : Character) : State :=
  if k + 1 = f.bytes.length then
    { discarded s with line := { s.line with view := .busy, assembly := none } }
  else
    { s with line := { s.line with
        view := .busy
        assembly := some
          { bytes := f.bytes.take k ++ [c.extractLsb' 1 8]
            malformed := decide (c.getLsbD 9 = false ∨
              (k = 3 ∧ (c.extractLsb' 1 8).toNat ≠ 0 ∧ (c.extractLsb' 1 8).toNat ≠ 8 ∧
                (c.extractLsb' 1 8).toNat ≠ 16)) } } }

end Sys2Proof.Machine

/-- COLLISION at any character of a frame: the frame is lost, COLLISION is counted, the characters read back begin a
frame under assembly or, with the last character, are discarded as a frame, and the third collision in a row is reported
as DUPLICATE_STATION, which trips, departs from OFF, or in TRIPPED raises the later-trip count (R8, R26, R80, R88, R89,
R103, R180, R181). That the readback is taken after the other effects is the model's reading (assumption 13). -/
def Obligations.CollisionGivesTheFrameUp : Prop :=
  ∀ (s : State) (cfg : Configuration) (f : Frame) (k : Nat) (sent : Byte) (c : Character) (readback : List Character),
    s.port.config = some cfg → s.line.transmission = some f → f.bytes[k]? = some sent →
    c.extractLsb' 1 8 ≠ sent ∨ c.getLsbD 9 = false →
    readback = (f.bytes.map characterOf).take k ++ [c] →
    (s.line.collisions < 2 →
      exec (.collision readback) s = .next (readbackTaken (gaveUp s) f k c)) ∧
    (2 ≤ s.line.collisions →
      (s.station.state = .tripped →
        exec (.collision readback) s = .next (readbackTaken (trippedAgain (gaveUp s)) f k c)) ∧
      (s.station.state = .off → s.fault.picture = none →
        exec (.collision readback) s =
          .next (readbackTaken (trippedFrom (departedOff (gaveUp s)) .duplicateStation) f k c)) ∧
      (s.station.state ≠ .tripped → s.station.state ≠ .off → s.station.state ≠ .unconfigured →
        s.fault.picture = none →
        exec (.collision readback) s =
          .next (readbackTaken (trippedFrom (gaveUp s) .duplicateStation) f k c)))

/-- ALERT_EXPIRY removes a head that has waited 20 ms and counts TX_DROPPED (R84). That a head that has not waited
so long stays is the model's reading (assumption 3). -/
def Obligations.AlertExpiryDropsTheHead : Prop :=
  ∀ (s : State) (head : QueuedFrame) (tail : List QueuedFrame), s.line.alertQueue = head :: tail →
    (20000 ≤ (s.time - head.queuedAt).toNat →
      exec .alertExpiry s = .next { counted s [.txDropped] with
        line := { s.line with alertQueue := tail } }) ∧
    ((s.time - head.queuedAt).toNat < 20000 → exec .alertExpiry s = .next s)

/-! ### Frames and the Peer Table -/

namespace Sys2Proof.Machine

/-- The line can take a frame of another station from its first character (R79, R80). -/
def listening (s : State) : Prop :=
  (s.line.view = .quiet ∨ s.line.view = .busy) ∧ s.line.transmission = none ∧
  (s.line.assembly = none ∨ s.line.assembly = some ⟨[], false⟩)

/-- The line after a whole frame: BUSY, nothing under assembly (R80). -/
def heardLine (l : ShareLine) : ShareLine := { l with view := .busy, assembly := none }

/-- The whole frame as its characters (R78). -/
def onTheLine (f : Frame) : List Character := f.bytes.map characterOf

/-- The fourth character of a frame under assembly gives one of the three body lengths (R80). -/
def lengthKnown (bytes : List Byte) : Prop :=
  fieldAt bytes 3 1 = 0 ∨ fieldAt bytes 3 1 = 8 ∨ fieldAt bytes 3 1 = 16

/-- A frame under assembly that has not ended: before its fourth character, short of its length, or of an unknown length
and short of twenty-two characters (R80). -/
def unended (bytes : List Byte) : Prop :=
  bytes.length < 4 ∨ (lengthKnown bytes ∧ bytes.length < fieldAt bytes 3 1 + 6) ∨
  (¬ lengthKnown bytes ∧ bytes.length < 22)

/-- Reasons 2, 3 and 5 of R103: an unknown kind, a body length of another kind, a field out of its range. -/
def spoilt (kind length : Nat) (body : List Byte) : Prop :=
  kind = 0 ∨ 4 ≤ kind ∨ (kind = 1 ∧ length ≠ 16) ∨ (kind = 2 ∧ length ≠ 8) ∨ (kind = 3 ∧ length ≠ 0) ∨
  (kind = 1 ∧ (fieldAt body 0 1 = 0 ∨ 9 < fieldAt body 0 1 ∨ fieldAt body 1 1 < 2 ∨ 20 < fieldAt body 1 1)) ∨
  (kind = 2 ∧ (fieldAt body 0 1 = 0 ∨ 5 < fieldAt body 0 1 ∨ fieldAt body 1 1 = 0 ∨ 9 < fieldAt body 1 1)) ∨
  ((kind = 1 ∨ kind = 2) ∧ 1500 < fieldAt body 2 2)

/-- An entry with the fields of an accepted SHARE (R115, R116). -/
def sharedPeer (p : Peer) (f : Frame) (b : ShareBody) (missed : Nat) : Peer where
  station := p.station
  status := .fresh
  lastState := b.stateCode
  demand := b.demand
  delivered := b.delivered
  capability := b.capability
  shortfall := b.shortfall
  headroom := b.headroom
  cover := b.cover
  voltage := b.voltage
  sharePeriod := some b.sharePeriod
  lastSequence := f.sequence
  age := 0
  agePhase := 0
  missed := missed

/-- An entry with the fields of an accepted ALERT (R115, R117). -/
def alertedPeer (p : Peer) (f : Frame) (b : AlertBody) (missed : Nat) : Peer :=
  { p with
    status := .fresh
    lastState := b.stateCode
    capability := b.capability
    shortfall := b.shortfall
    headroom := 0
    voltage := b.voltage
    lastSequence := f.sequence
    age := 0
    agePhase := 0
    missed := missed }

/-- A station heard of for the first time (R112). -/
def unheardPeer (n : Nat) : Peer where
  station := n
  status := .fresh
  lastState := 0
  demand := 0
  delivered := 0
  capability := 0
  shortfall := 0
  headroom := 0
  cover := 0
  voltage := 0
  sharePeriod := none
  lastSequence := 0
  age := 0
  agePhase := 0
  missed := 0

/-- The table with a changed entry for station `n`. -/
def withEntry (peers : List Peer) (n : Nat) (entry : Peer) : List Peer :=
  peers.map fun p => if p.station = n then entry else p

/-- An accepted frame that changes the table and counts events (R93, R106). -/
def acceptedWith (s : State) (peers : List Peer) (kinds : List EventKind) : State :=
  { counted s kinds with
    line := heardLine s.line
    peers := peers
    filter := { s.filter with accepted := s.filter.accepted + 1 } }

end Sys2Proof.Machine

/-- FRAME_RECEIVED with a frame that is not whole, or does not reach the Peer Table. Characters that end no frame are the
frame under assembly, malformed by a bad stop bit or an unknown length. Characters that follow an intact part under
assembly, as an aborted transmission leaves it, are taken as if the whole frame had come at once, so what is said of a
whole frame here and elsewhere holds of them; a malformed part ends in a discarded frame. Of the whole frames, one that a character error or a wrong check spoils,
one with a length that no kind has, and one with an unknown kind, a wrong length for its kind or a field out of range,
whatever its check, is discarded with FRAME_ERROR. An intact one under the own number trips the part, departs from OFF,
or in TRIPPED raises the later-trip count, and one of another group is counted (R8, R26, R78, R80, R88, R102 to R105,
R181). The characters come with the command (assumption 11). -/
def Obligations.FrameNotForThisPartStopsAtItsStage : Prop :=
  (∀ (s : State) (cfg : Configuration) (f : Frame), s.port.config = some cfg → listening s → f.inRange = true →
    s.filter.station = some cfg.station → s.filter.group = some cfg.group →
    (∀ k b, f.bytes[k]? = some b →
      exec (.frameReceived ((onTheLine f).set k (characterOf b &&& 0x1FF#10))) s =
        .next { discarded s with line := heardLine s.line }) ∧
    (∀ hi lo : Byte, f.payload ++ [hi, lo] ≠ f.bytes →
      exec (.frameReceived ((f.payload ++ [hi, lo]).map characterOf)) s =
        .next { discarded s with line := heardLine s.line }) ∧
    (f.station = cfg.station →
      (s.station.state = .tripped →
        exec (.frameReceived (onTheLine f)) s = .next (trippedAgain { s with line := heardLine s.line })) ∧
      (s.station.state = .off → s.fault.picture = none →
        exec (.frameReceived (onTheLine f)) s =
          .next (trippedFrom (departedOff { s with line := heardLine s.line }) .duplicateStation)) ∧
      (s.station.state ≠ .tripped → s.station.state ≠ .off → s.station.state ≠ .unconfigured →
        s.fault.picture = none →
        exec (.frameReceived (onTheLine f)) s =
          .next (trippedFrom { s with line := heardLine s.line } .duplicateStation))) ∧
    (f.station ≠ cfg.station → f.group ≠ cfg.group →
      exec (.frameReceived (onTheLine f)) s =
        .next { s with
          line := heardLine s.line
          filter := { s.filter with otherGroup := s.filter.otherGroup + 1 } })) ∧
  (∀ (s : State) (b0 b1 b2 b3 : Byte) (rest : List Byte), s.port.config ≠ none → listening s →
    (b3.toNat ≠ 0 ∧ b3.toNat ≠ 8 ∧ b3.toNat ≠ 16 ∧ rest.length = 18) ∨
      ((b3.toNat = 0 ∨ b3.toNat = 8 ∨ b3.toNat = 16) ∧ rest.length = b3.toNat + 2 ∧
        spoilt (b0.toNat / 16) b3.toNat rest) →
    exec (.frameReceived ((b0 :: b1 :: b2 :: b3 :: rest).map characterOf)) s =
      .next { discarded s with line := heardLine s.line }) ∧
  (∀ (s : State) (cs : List Character) (bytes : List Byte), s.port.config ≠ none → listening s → cs ≠ [] →
    bytes = cs.map (fun c => c.extractLsb' 1 8) → unended bytes →
    ∃ malformed : Bool,
      (malformed = true ↔ (∃ c ∈ cs, c.getLsbD 9 = false) ∨ (4 ≤ bytes.length ∧ ¬ lengthKnown bytes)) ∧
      exec (.frameReceived cs) s =
        .next { s with line := { s.line with view := .busy, assembly := some ⟨bytes, malformed⟩ } }) ∧
  (∀ (s : State) (cs : List Character) (part : List Byte), s.port.config ≠ none → s.line.view = .busy →
    s.line.transmission = none → part ≠ [] → unended part →
    (part.length < 4 ∨ lengthKnown part → s.line.assembly = some ⟨part, false⟩ →
      exec (.frameReceived cs) s =
        exec (.frameReceived (part.map characterOf ++ cs)) { s with line := { s.line with assembly := none } }) ∧
    (∀ whole, s.line.assembly = some ⟨part, true⟩ → cs ≠ [] →
      whole = part ++ cs.map (fun c => c.extractLsb' 1 8) → 4 ≤ whole.length →
      (lengthKnown whole ∧ whole.length = fieldAt whole 3 1 + 6) ∨ (¬ lengthKnown whole ∧ whole.length = 22) →
      exec (.frameReceived cs) s = .next { discarded s with line := heardLine s.line }))

/-- FRAME_RECEIVED from a number without an entry: a SHARE or an ALERT creates the entry at its place with
PEER_JOINED, whatever its flag and sequence, and a LEAVE changes nothing but the count of accepted frames (R112,
R116, R117). -/
def Obligations.FrameFromANewNumberCreatesItsEntry : Prop :=
  ∀ (s : State) (cfg : Configuration) (f : Frame), s.port.config = some cfg → listening s → f.inRange = true →
    s.filter.station = some cfg.station → s.filter.group = some cfg.group → f.station ≠ cfg.station →
    f.group = cfg.group → (∀ p ∈ s.peers, p.station ≠ f.station) →
    s.peers.Pairwise (fun p q => p.station < q.station) →
    (∀ entry : Peer,
      (∃ b, f.body = .share b ∧ entry = sharedPeer (unheardPeer f.station) f b 0) ∨
      (∃ b, f.body = .alert b ∧ (b.kind = .recovered ∨ b.kind = .standby) ∧
        entry = alertedPeer (unheardPeer f.station) f b 0) →
      ∃ before after, s.peers = before ++ after ∧ (∀ p ∈ before, p.station < f.station) ∧
        (∀ p ∈ after, f.station < p.station) ∧
        exec (.frameReceived (onTheLine f)) s =
          .next (acceptedWith s (before ++ entry :: after) [.peerJoined])) ∧
    (f.body = .leave → exec (.frameReceived (onTheLine f)) s = .next (acceptedWith s s.peers []))

/-- FRAME_RECEIVED with a SHARE, an ALERT that asks for no early update, or a LEAVE, from a station with an
entry: by the flag and the distance of its sequence the frame is accepted, a duplicate or stale, with the missed
count and the event of R113 and R114; an accepted LEAVE removes the entry (R113 to R118). -/
def Obligations.FrameFromAKnownPeerIsJudgedByDistance : Prop :=
  ∀ (s : State) (cfg : Configuration) (f : Frame) (p : Peer) (d : Nat) (entry : Nat → Peer),
    s.port.config = some cfg → listening s → f.inRange = true →
    s.filter.station = some cfg.station → s.filter.group = some cfg.group → f.station ≠ cfg.station →
    f.group = cfg.group → s.peers.find? (fun q => decide (q.station = f.station)) = some p →
    s.peers.Pairwise (fun a b => a.station < b.station) →
    d = (f.sequence - p.lastSequence).toNat →
    ((∃ b, f.body = .share b ∧ entry = sharedPeer p f b) ∨
      (∃ b, f.body = .alert b ∧ (b.kind = .recovered ∨ b.kind = .standby) ∧ entry = alertedPeer p f b) →
      (f.first = true →
        exec (.frameReceived (onTheLine f)) s =
          .next (acceptedWith s (withEntry s.peers f.station (entry 0)) [.peerRestart])) ∧
      (f.first = false → d = 1 →
        exec (.frameReceived (onTheLine f)) s =
          .next (acceptedWith s (withEntry s.peers f.station (entry p.missed)) [])) ∧
      (f.first = false → 2 ≤ d → d ≤ 127 →
        exec (.frameReceived (onTheLine f)) s =
          .next (acceptedWith s (withEntry s.peers f.station (entry (min 255 (p.missed + (d - 1)))))
            [.seqGap])) ∧
      (f.first = false → 128 ≤ d → p.status = .silent ∨ p.status = .lost →
        exec (.frameReceived (onTheLine f)) s =
          .next (acceptedWith s (withEntry s.peers f.station (entry p.missed)) [.peerRestart]))) ∧
    (f.first = false → d = 0 →
      exec (.frameReceived (onTheLine f)) s = .next { s with
        line := heardLine s.line
        filter := { s.filter with duplicate := s.filter.duplicate + 1 } }) ∧
    (f.first = false → 128 ≤ d → p.status = .fresh →
      exec (.frameReceived (onTheLine f)) s = .next { s with
        line := heardLine s.line
        filter := { s.filter with stale := s.filter.stale + 1 } }) ∧
    (f.body = .leave → f.first = true ∨ (1 ≤ d ∧ d ≤ 127) ∨ (128 ≤ d ∧ p.status ≠ .fresh) →
      exec (.frameReceived (onTheLine f)) s =
        .next (acceptedWith s (s.peers.filter fun q => decide (q.station ≠ f.station)) [.peerLeft]))

/-- An accepted ALERT of kind ONSET, BLOCK or TRIP, from a new number or from a known peer, changes the table like any
other, with its PEER_JOINED, PEER_RESTART or SEQ_GAP. Then, when the last share update is at least 1 ms old or none is
held, a whole share update runs at once, with the tests at its end: exactly what SHARE_UPDATE does with the changed table
when its timer expires at this instant, so that the next expiry is P_sh after it. Otherwise, and in OFF, nothing more
happens (R112 to R117, R125, R135, R136, R146). -/
def Obligations.AlertBringsTheShareUpdateForward : Prop :=
  ∀ (s u : State) (cfg : Configuration) (f : Frame) (b : AlertBody) (table : List Peer) (kinds : List EventKind),
    s.port.config = some cfg →
    listening s → f.inRange = true → s.filter.station = some cfg.station → s.filter.group = some cfg.group →
    f.station ≠ cfg.station → f.group = cfg.group → s.peers.Pairwise (fun p q => p.station < q.station) →
    f.body = .alert b → b.kind = .onset ∨ b.kind = .block ∨ b.kind = .trip →
    (∃ before after, s.peers = before ++ after ∧ (∀ p ∈ before, p.station < f.station) ∧
        (∀ p ∈ after, f.station < p.station) ∧
        table = before ++ alertedPeer (unheardPeer f.station) f b 0 :: after ∧ kinds = [.peerJoined]) ∨
      (∃ p, s.peers.find? (fun q => decide (q.station = f.station)) = some p ∧
        ((f.first = true ∧ table = withEntry s.peers f.station (alertedPeer p f b 0) ∧ kinds = [.peerRestart]) ∨
          (f.first = false ∧ f.sequence - p.lastSequence = 1#8 ∧
            table = withEntry s.peers f.station (alertedPeer p f b p.missed) ∧ kinds = []) ∨
          (f.first = false ∧ 128 ≤ (f.sequence - p.lastSequence).toNat ∧ p.status ≠ .fresh ∧
            table = withEntry s.peers f.station (alertedPeer p f b p.missed) ∧ kinds = [.peerRestart]) ∨
          (f.first = false ∧ 2 ≤ (f.sequence - p.lastSequence).toNat ∧
            (f.sequence - p.lastSequence).toNat ≤ 127 ∧
            table = withEntry s.peers f.station
              (alertedPeer p f b (min 255 (p.missed + ((f.sequence - p.lastSequence).toNat - 1)))) ∧
            kinds = [.seqGap]))) →
    u = acceptedWith s table kinds →
    (s.station.state ≠ .off → s.station.state ≠ .unconfigured →
      (∀ last, s.allocator.lastUpdate = some last → 1000 ≤ (s.time - last.1).toNat) →
      ∃ t, exec (.frameReceived (onTheLine f)) s = .next t ∧
        exec .shareUpdate { u with allocator := { s.allocator with shareTimer := some s.time } } = .next t ∧
        t.peers = table ∧ t.filter = u.filter ∧ t.time = s.time ∧ t.port = s.port ∧ t.tracker = s.tracker ∧
        t.sampler = s.sampler ∧ t.classifier = s.classifier ∧
        t.allocator.shareTimer = some (s.time + BitVec.ofNat 32 (cfg.sharePeriod * 1000)) ∧
        (t.station.state ≠ .off →
          t.allocator.lastUpdate = some (s.time, s.allocator.ms) ∧
          t.allocator.shortfallSum = t.allocator.shortfall + (shortfallsOf table).sum ∧
          t.line.shareSlot.map ShareBody.shortfall = some t.allocator.shortfall)) ∧
    (s.station.state = .off ∨
        (∃ last, s.allocator.lastUpdate = some last ∧ (s.time - last.1).toNat < 1000) →
      exec (.frameReceived (onTheLine f)) s = .next u)

/-- PEER_SILENT and PEER_LOST move an entry on when its age has reached T_silent or T_lost, keep its other
fields and count their event (R120, R121). That an entry that is younger or in another status stays is the model's
reading (assumption 3). -/
def Obligations.AgingMovesAnEntryOn : Prop :=
  ∀ (s : State) (cfg : Configuration) (n : Fin 16) (p : Peer), s.port.config = some cfg →
    s.peers.find? (fun q => decide (q.station = n.val)) = some p →
    s.peers.Pairwise (fun a b => a.station < b.station) →
    (p.status = .fresh → cfg.tSilent ≤ p.age →
      exec (.peerSilent n) s = .next { counted s [.peerSilent] with
        peers := withEntry s.peers n.val { p with status := .silent } }) ∧
    (p.status = .silent → cfg.tLost ≤ p.age →
      exec (.peerLost n) s = .next { counted s [.peerLost] with
        peers := withEntry s.peers n.val { p with status := .lost } }) ∧
    (p.status ≠ .fresh ∨ p.age < cfg.tSilent → exec (.peerSilent n) s = .next s) ∧
    (p.status ≠ .silent ∨ p.age < cfg.tLost → exec (.peerLost n) s = .next s)

/-- Every frame within the ranges of the layout is read back from its bytes, field for field: the layout, the
group and flag bits, the check and the range tests drop nothing (R95 to R101, R103). -/
def Obligations.FrameBytesReadBack : Prop :=
  ∀ f : Frame, f.inRange = true → frameOf f.bytes = some f

/-! ### What every step keeps (the predicates stand in Sys2Proof/Safety.lean) -/

/-- Counters stay within 0 to 255, and the attention lines follow them (R174, R175). -/
def Obligations.EveryStepKeepsTheEventUnitSound : Prop :=
  ∀ s t : State, s.events.Sound → step s = .next t → t.events.Sound

/-- UNCONFIGURED and the inactive blocks go with the missing configuration; a configuration that is held is in
range and stays as it is until POWER_ON_RESET (R3, R192, R195). -/
def Obligations.EveryStepKeepsTheConfiguration : Prop :=
  ∀ s t : State, s.ConfigurationSound → step s = .next t →
    t.ConfigurationSound ∧
    (∀ cfg, s.port.config = some cfg → s.pending.head? ≠ some .powerOnReset → t.port.config = some cfg)

/-- The stack holds 1 or 2 records exactly in RIDE, BLOCKED and RESTART, and destination, origins and timers are
held where they are used (R5, R13, R20, R24). -/
def Obligations.EveryStepKeepsTheStationSound : Prop :=
  ∀ s t : State, s.ConfigurationSound → s.station.StackFits → s.station.HeldWhereUsed → step s = .next t →
    t.station.StackFits ∧ t.station.HeldWhereUsed

/-- What the tracker holds by its state, and TRACKED timing exactly while it is LOCKED (R31 to R38, R43, R49,
R50). -/
def Obligations.EveryStepKeepsTheTrackerSound : Prop :=
  ∀ s t : State, s.ConfigurationSound → s.TrackerSound → step s = .next t → t.TrackerSound

/-- Windows, sample count, cycle count and line figures stay in range, and the classifier holds what its state
calls for (R46, R47, R51, R52; R61, R64, R65, R71 to R75). -/
def Obligations.EveryStepKeepsSamplerAndClassifierSound : Prop :=
  ∀ s t : State, s.sampler.Sound → s.classifier.Sound → step s = .next t →
    t.sampler.Sound ∧ t.classifier.Sound

/-- The alert queue holds at most 4 frames, and in OFF nothing waits but a LEAVE (R83, R85, R88, R90). -/
def Obligations.EveryStepKeepsTheLineSound : Prop :=
  ∀ s t : State, s.ConfigurationSound → s.line.Sound → s.SendsByState → step s = .next t →
    t.line.Sound ∧ t.SendsByState

/-- One entry per foreign station number, in ascending order, at most 15, each field in range (R109, R119). -/
def Obligations.EveryStepKeepsThePeerTableSound : Prop :=
  ∀ s t : State, s.ConfigurationSound → s.PeersSound → step s = .next t → t.PeersSound

/-- SP never exceeds C and is 0 outside the firing states, c never exceeds H nor H the limit L, and both are 0
outside RUN; the allocator holds the latest figure set (R140, R147, R148). -/
def Obligations.EveryStepKeepsSetpointAndCoverSound : Prop :=
  ∀ s t : State, s.ConfigurationSound → s.FiguresShared → s.SetpointSound → s.CoverSound → step s = .next t →
    t.FiguresShared ∧ t.SetpointSound ∧ t.CoverSound

/-- The integrator and the saved ones stay within the limit and the angles within alpha_min and alpha_max (R151,
R155, R156, R162). -/
def Obligations.EveryStepKeepsTheAnglesSound : Prop :=
  ∀ s t : State, s.ConfigurationSound → s.station.StackFits → s.AnglesSound → step s = .next t → t.AnglesSound

/-- No gate is driven and no firing waits while the generator is INHIBITED or the tracker is not LOCKED, and it
is ENABLED in the firing states alone (R1, R159, R160, R162, R163, R165). -/
def Obligations.EveryStepKeepsTheGatesSound : Prop :=
  ∀ s t : State, s.ConfigurationSound → s.GatesSound → step s = .next t → t.GatesSound

/-- The Fault Record is valid exactly while the station is TRIPPED, and its picture stays as captured until
CLEAR FAULT or POWER_ON_RESET (R181, R183). -/
def Obligations.EveryStepKeepsTheFaultRecord : Prop :=
  ∀ s t : State, s.ConfigurationSound → s.FaultSound → step s = .next t →
    t.FaultSound ∧
    (s.fault.picture ≠ none → s.pending.head? ≠ some .clearFault → s.pending.head? ≠ some .powerOnReset →
      t.fault.picture = s.fault.picture)

/-- D and a pending demand never exceed I_r, and every frame that waits or is sent stays within the ranges of
the layout (R95, R101, R193). -/
def Obligations.EveryStepKeepsFramesInRange : Prop :=
  ∀ s t : State, s.ConfigurationSound → s.sampler.Sound → s.FiguresShared → s.SetpointSound → s.CoverSound →
    s.DemandSound → s.FramesInRange → step s = .next t → t.DemandSound ∧ t.FramesInRange

/-- The state after reset has every property that the steps keep. -/
def Obligations.ResetIsSound : Prop :=
  State.reset.events.Sound ∧ State.reset.ConfigurationSound ∧ State.reset.station.StackFits ∧
  State.reset.station.HeldWhereUsed ∧ State.reset.TrackerSound ∧ State.reset.sampler.Sound ∧
  State.reset.classifier.Sound ∧ State.reset.line.Sound ∧ State.reset.SendsByState ∧ State.reset.PeersSound ∧
  State.reset.FiguresShared ∧ State.reset.SetpointSound ∧ State.reset.CoverSound ∧ State.reset.AnglesSound ∧
  State.reset.GatesSound ∧ State.reset.FaultSound ∧ State.reset.DemandSound ∧ State.reset.FramesInRange
end

