-- ==== Sys2Proof/Laws/State.lean ====
section
/-! SUPPORT. One lemma per field per setter of `State`, so that no later proof unfolds a record update. -/

namespace Sys2Proof.Machine

/-! ### `State.setPending` -/

@[simp] theorem State.setPending_pending (s : State) (x : List Instr) : (s.setPending x).pending = x := rfl
@[simp] theorem State.setPending_time (s : State) (x : List Instr) : (s.setPending x).time = s.time := rfl
@[simp] theorem State.setPending_station (s : State) (x : List Instr) : (s.setPending x).station = s.station := rfl
@[simp] theorem State.setPending_tracker (s : State) (x : List Instr) : (s.setPending x).tracker = s.tracker := rfl
@[simp] theorem State.setPending_sampler (s : State) (x : List Instr) : (s.setPending x).sampler = s.sampler := rfl
@[simp] theorem State.setPending_classifier (s : State) (x : List Instr) : (s.setPending x).classifier = s.classifier := rfl
@[simp] theorem State.setPending_line (s : State) (x : List Instr) : (s.setPending x).line = s.line := rfl
@[simp] theorem State.setPending_filter (s : State) (x : List Instr) : (s.setPending x).filter = s.filter := rfl
@[simp] theorem State.setPending_peers (s : State) (x : List Instr) : (s.setPending x).peers = s.peers := rfl
@[simp] theorem State.setPending_allocator (s : State) (x : List Instr) : (s.setPending x).allocator = s.allocator := rfl
@[simp] theorem State.setPending_regulator (s : State) (x : List Instr) : (s.setPending x).regulator = s.regulator := rfl
@[simp] theorem State.setPending_gates (s : State) (x : List Instr) : (s.setPending x).gates = s.gates := rfl
@[simp] theorem State.setPending_protection (s : State) (x : List Instr) : (s.setPending x).protection = s.protection := rfl
@[simp] theorem State.setPending_events (s : State) (x : List Instr) : (s.setPending x).events = s.events := rfl
@[simp] theorem State.setPending_fault (s : State) (x : List Instr) : (s.setPending x).fault = s.fault := rfl
@[simp] theorem State.setPending_port (s : State) (x : List Instr) : (s.setPending x).port = s.port := rfl

/-! ### `State.setTime` -/

@[simp] theorem State.setTime_pending (s : State) (x : Micros) : (s.setTime x).pending = s.pending := rfl
@[simp] theorem State.setTime_time (s : State) (x : Micros) : (s.setTime x).time = x := rfl
@[simp] theorem State.setTime_station (s : State) (x : Micros) : (s.setTime x).station = s.station := rfl
@[simp] theorem State.setTime_tracker (s : State) (x : Micros) : (s.setTime x).tracker = s.tracker := rfl
@[simp] theorem State.setTime_sampler (s : State) (x : Micros) : (s.setTime x).sampler = s.sampler := rfl
@[simp] theorem State.setTime_classifier (s : State) (x : Micros) : (s.setTime x).classifier = s.classifier := rfl
@[simp] theorem State.setTime_line (s : State) (x : Micros) : (s.setTime x).line = s.line := rfl
@[simp] theorem State.setTime_filter (s : State) (x : Micros) : (s.setTime x).filter = s.filter := rfl
@[simp] theorem State.setTime_peers (s : State) (x : Micros) : (s.setTime x).peers = s.peers := rfl
@[simp] theorem State.setTime_allocator (s : State) (x : Micros) : (s.setTime x).allocator = s.allocator := rfl
@[simp] theorem State.setTime_regulator (s : State) (x : Micros) : (s.setTime x).regulator = s.regulator := rfl
@[simp] theorem State.setTime_gates (s : State) (x : Micros) : (s.setTime x).gates = s.gates := rfl
@[simp] theorem State.setTime_protection (s : State) (x : Micros) : (s.setTime x).protection = s.protection := rfl
@[simp] theorem State.setTime_events (s : State) (x : Micros) : (s.setTime x).events = s.events := rfl
@[simp] theorem State.setTime_fault (s : State) (x : Micros) : (s.setTime x).fault = s.fault := rfl
@[simp] theorem State.setTime_port (s : State) (x : Micros) : (s.setTime x).port = s.port := rfl

/-! ### `State.setStation` -/

@[simp] theorem State.setStation_pending (s : State) (x : Station) : (s.setStation x).pending = s.pending := rfl
@[simp] theorem State.setStation_time (s : State) (x : Station) : (s.setStation x).time = s.time := rfl
@[simp] theorem State.setStation_station (s : State) (x : Station) : (s.setStation x).station = x := rfl
@[simp] theorem State.setStation_tracker (s : State) (x : Station) : (s.setStation x).tracker = s.tracker := rfl
@[simp] theorem State.setStation_sampler (s : State) (x : Station) : (s.setStation x).sampler = s.sampler := rfl
@[simp] theorem State.setStation_classifier (s : State) (x : Station) : (s.setStation x).classifier = s.classifier := rfl
@[simp] theorem State.setStation_line (s : State) (x : Station) : (s.setStation x).line = s.line := rfl
@[simp] theorem State.setStation_filter (s : State) (x : Station) : (s.setStation x).filter = s.filter := rfl
@[simp] theorem State.setStation_peers (s : State) (x : Station) : (s.setStation x).peers = s.peers := rfl
@[simp] theorem State.setStation_allocator (s : State) (x : Station) : (s.setStation x).allocator = s.allocator := rfl
@[simp] theorem State.setStation_regulator (s : State) (x : Station) : (s.setStation x).regulator = s.regulator := rfl
@[simp] theorem State.setStation_gates (s : State) (x : Station) : (s.setStation x).gates = s.gates := rfl
@[simp] theorem State.setStation_protection (s : State) (x : Station) : (s.setStation x).protection = s.protection := rfl
@[simp] theorem State.setStation_events (s : State) (x : Station) : (s.setStation x).events = s.events := rfl
@[simp] theorem State.setStation_fault (s : State) (x : Station) : (s.setStation x).fault = s.fault := rfl
@[simp] theorem State.setStation_port (s : State) (x : Station) : (s.setStation x).port = s.port := rfl

/-! ### `State.setTracker` -/

@[simp] theorem State.setTracker_pending (s : State) (x : Tracker) : (s.setTracker x).pending = s.pending := rfl
@[simp] theorem State.setTracker_time (s : State) (x : Tracker) : (s.setTracker x).time = s.time := rfl
@[simp] theorem State.setTracker_station (s : State) (x : Tracker) : (s.setTracker x).station = s.station := rfl
@[simp] theorem State.setTracker_tracker (s : State) (x : Tracker) : (s.setTracker x).tracker = x := rfl
@[simp] theorem State.setTracker_sampler (s : State) (x : Tracker) : (s.setTracker x).sampler = s.sampler := rfl
@[simp] theorem State.setTracker_classifier (s : State) (x : Tracker) : (s.setTracker x).classifier = s.classifier := rfl
@[simp] theorem State.setTracker_line (s : State) (x : Tracker) : (s.setTracker x).line = s.line := rfl
@[simp] theorem State.setTracker_filter (s : State) (x : Tracker) : (s.setTracker x).filter = s.filter := rfl
@[simp] theorem State.setTracker_peers (s : State) (x : Tracker) : (s.setTracker x).peers = s.peers := rfl
@[simp] theorem State.setTracker_allocator (s : State) (x : Tracker) : (s.setTracker x).allocator = s.allocator := rfl
@[simp] theorem State.setTracker_regulator (s : State) (x : Tracker) : (s.setTracker x).regulator = s.regulator := rfl
@[simp] theorem State.setTracker_gates (s : State) (x : Tracker) : (s.setTracker x).gates = s.gates := rfl
@[simp] theorem State.setTracker_protection (s : State) (x : Tracker) : (s.setTracker x).protection = s.protection := rfl
@[simp] theorem State.setTracker_events (s : State) (x : Tracker) : (s.setTracker x).events = s.events := rfl
@[simp] theorem State.setTracker_fault (s : State) (x : Tracker) : (s.setTracker x).fault = s.fault := rfl
@[simp] theorem State.setTracker_port (s : State) (x : Tracker) : (s.setTracker x).port = s.port := rfl

/-! ### `State.setSampler` -/

@[simp] theorem State.setSampler_pending (s : State) (x : Sampler) : (s.setSampler x).pending = s.pending := rfl
@[simp] theorem State.setSampler_time (s : State) (x : Sampler) : (s.setSampler x).time = s.time := rfl
@[simp] theorem State.setSampler_station (s : State) (x : Sampler) : (s.setSampler x).station = s.station := rfl
@[simp] theorem State.setSampler_tracker (s : State) (x : Sampler) : (s.setSampler x).tracker = s.tracker := rfl
@[simp] theorem State.setSampler_sampler (s : State) (x : Sampler) : (s.setSampler x).sampler = x := rfl
@[simp] theorem State.setSampler_classifier (s : State) (x : Sampler) : (s.setSampler x).classifier = s.classifier := rfl
@[simp] theorem State.setSampler_line (s : State) (x : Sampler) : (s.setSampler x).line = s.line := rfl
@[simp] theorem State.setSampler_filter (s : State) (x : Sampler) : (s.setSampler x).filter = s.filter := rfl
@[simp] theorem State.setSampler_peers (s : State) (x : Sampler) : (s.setSampler x).peers = s.peers := rfl
@[simp] theorem State.setSampler_allocator (s : State) (x : Sampler) : (s.setSampler x).allocator = s.allocator := rfl
@[simp] theorem State.setSampler_regulator (s : State) (x : Sampler) : (s.setSampler x).regulator = s.regulator := rfl
@[simp] theorem State.setSampler_gates (s : State) (x : Sampler) : (s.setSampler x).gates = s.gates := rfl
@[simp] theorem State.setSampler_protection (s : State) (x : Sampler) : (s.setSampler x).protection = s.protection := rfl
@[simp] theorem State.setSampler_events (s : State) (x : Sampler) : (s.setSampler x).events = s.events := rfl
@[simp] theorem State.setSampler_fault (s : State) (x : Sampler) : (s.setSampler x).fault = s.fault := rfl
@[simp] theorem State.setSampler_port (s : State) (x : Sampler) : (s.setSampler x).port = s.port := rfl

/-! ### `State.setClassifier` -/

@[simp] theorem State.setClassifier_pending (s : State) (x : Classifier) : (s.setClassifier x).pending = s.pending := rfl
@[simp] theorem State.setClassifier_time (s : State) (x : Classifier) : (s.setClassifier x).time = s.time := rfl
@[simp] theorem State.setClassifier_station (s : State) (x : Classifier) : (s.setClassifier x).station = s.station := rfl
@[simp] theorem State.setClassifier_tracker (s : State) (x : Classifier) : (s.setClassifier x).tracker = s.tracker := rfl
@[simp] theorem State.setClassifier_sampler (s : State) (x : Classifier) : (s.setClassifier x).sampler = s.sampler := rfl
@[simp] theorem State.setClassifier_classifier (s : State) (x : Classifier) : (s.setClassifier x).classifier = x := rfl
@[simp] theorem State.setClassifier_line (s : State) (x : Classifier) : (s.setClassifier x).line = s.line := rfl
@[simp] theorem State.setClassifier_filter (s : State) (x : Classifier) : (s.setClassifier x).filter = s.filter := rfl
@[simp] theorem State.setClassifier_peers (s : State) (x : Classifier) : (s.setClassifier x).peers = s.peers := rfl
@[simp] theorem State.setClassifier_allocator (s : State) (x : Classifier) : (s.setClassifier x).allocator = s.allocator := rfl
@[simp] theorem State.setClassifier_regulator (s : State) (x : Classifier) : (s.setClassifier x).regulator = s.regulator := rfl
@[simp] theorem State.setClassifier_gates (s : State) (x : Classifier) : (s.setClassifier x).gates = s.gates := rfl
@[simp] theorem State.setClassifier_protection (s : State) (x : Classifier) : (s.setClassifier x).protection = s.protection := rfl
@[simp] theorem State.setClassifier_events (s : State) (x : Classifier) : (s.setClassifier x).events = s.events := rfl
@[simp] theorem State.setClassifier_fault (s : State) (x : Classifier) : (s.setClassifier x).fault = s.fault := rfl
@[simp] theorem State.setClassifier_port (s : State) (x : Classifier) : (s.setClassifier x).port = s.port := rfl

/-! ### `State.setLine` -/

@[simp] theorem State.setLine_pending (s : State) (x : ShareLine) : (s.setLine x).pending = s.pending := rfl
@[simp] theorem State.setLine_time (s : State) (x : ShareLine) : (s.setLine x).time = s.time := rfl
@[simp] theorem State.setLine_station (s : State) (x : ShareLine) : (s.setLine x).station = s.station := rfl
@[simp] theorem State.setLine_tracker (s : State) (x : ShareLine) : (s.setLine x).tracker = s.tracker := rfl
@[simp] theorem State.setLine_sampler (s : State) (x : ShareLine) : (s.setLine x).sampler = s.sampler := rfl
@[simp] theorem State.setLine_classifier (s : State) (x : ShareLine) : (s.setLine x).classifier = s.classifier := rfl
@[simp] theorem State.setLine_line (s : State) (x : ShareLine) : (s.setLine x).line = x := rfl
@[simp] theorem State.setLine_filter (s : State) (x : ShareLine) : (s.setLine x).filter = s.filter := rfl
@[simp] theorem State.setLine_peers (s : State) (x : ShareLine) : (s.setLine x).peers = s.peers := rfl
@[simp] theorem State.setLine_allocator (s : State) (x : ShareLine) : (s.setLine x).allocator = s.allocator := rfl
@[simp] theorem State.setLine_regulator (s : State) (x : ShareLine) : (s.setLine x).regulator = s.regulator := rfl
@[simp] theorem State.setLine_gates (s : State) (x : ShareLine) : (s.setLine x).gates = s.gates := rfl
@[simp] theorem State.setLine_protection (s : State) (x : ShareLine) : (s.setLine x).protection = s.protection := rfl
@[simp] theorem State.setLine_events (s : State) (x : ShareLine) : (s.setLine x).events = s.events := rfl
@[simp] theorem State.setLine_fault (s : State) (x : ShareLine) : (s.setLine x).fault = s.fault := rfl
@[simp] theorem State.setLine_port (s : State) (x : ShareLine) : (s.setLine x).port = s.port := rfl

/-! ### `State.setFilter` -/

@[simp] theorem State.setFilter_pending (s : State) (x : FrameFilter) : (s.setFilter x).pending = s.pending := rfl
@[simp] theorem State.setFilter_time (s : State) (x : FrameFilter) : (s.setFilter x).time = s.time := rfl
@[simp] theorem State.setFilter_station (s : State) (x : FrameFilter) : (s.setFilter x).station = s.station := rfl
@[simp] theorem State.setFilter_tracker (s : State) (x : FrameFilter) : (s.setFilter x).tracker = s.tracker := rfl
@[simp] theorem State.setFilter_sampler (s : State) (x : FrameFilter) : (s.setFilter x).sampler = s.sampler := rfl
@[simp] theorem State.setFilter_classifier (s : State) (x : FrameFilter) : (s.setFilter x).classifier = s.classifier := rfl
@[simp] theorem State.setFilter_line (s : State) (x : FrameFilter) : (s.setFilter x).line = s.line := rfl
@[simp] theorem State.setFilter_filter (s : State) (x : FrameFilter) : (s.setFilter x).filter = x := rfl
@[simp] theorem State.setFilter_peers (s : State) (x : FrameFilter) : (s.setFilter x).peers = s.peers := rfl
@[simp] theorem State.setFilter_allocator (s : State) (x : FrameFilter) : (s.setFilter x).allocator = s.allocator := rfl
@[simp] theorem State.setFilter_regulator (s : State) (x : FrameFilter) : (s.setFilter x).regulator = s.regulator := rfl
@[simp] theorem State.setFilter_gates (s : State) (x : FrameFilter) : (s.setFilter x).gates = s.gates := rfl
@[simp] theorem State.setFilter_protection (s : State) (x : FrameFilter) : (s.setFilter x).protection = s.protection := rfl
@[simp] theorem State.setFilter_events (s : State) (x : FrameFilter) : (s.setFilter x).events = s.events := rfl
@[simp] theorem State.setFilter_fault (s : State) (x : FrameFilter) : (s.setFilter x).fault = s.fault := rfl
@[simp] theorem State.setFilter_port (s : State) (x : FrameFilter) : (s.setFilter x).port = s.port := rfl

/-! ### `State.setPeers` -/

@[simp] theorem State.setPeers_pending (s : State) (x : List Peer) : (s.setPeers x).pending = s.pending := rfl
@[simp] theorem State.setPeers_time (s : State) (x : List Peer) : (s.setPeers x).time = s.time := rfl
@[simp] theorem State.setPeers_station (s : State) (x : List Peer) : (s.setPeers x).station = s.station := rfl
@[simp] theorem State.setPeers_tracker (s : State) (x : List Peer) : (s.setPeers x).tracker = s.tracker := rfl
@[simp] theorem State.setPeers_sampler (s : State) (x : List Peer) : (s.setPeers x).sampler = s.sampler := rfl
@[simp] theorem State.setPeers_classifier (s : State) (x : List Peer) : (s.setPeers x).classifier = s.classifier := rfl
@[simp] theorem State.setPeers_line (s : State) (x : List Peer) : (s.setPeers x).line = s.line := rfl
@[simp] theorem State.setPeers_filter (s : State) (x : List Peer) : (s.setPeers x).filter = s.filter := rfl
@[simp] theorem State.setPeers_peers (s : State) (x : List Peer) : (s.setPeers x).peers = x := rfl
@[simp] theorem State.setPeers_allocator (s : State) (x : List Peer) : (s.setPeers x).allocator = s.allocator := rfl
@[simp] theorem State.setPeers_regulator (s : State) (x : List Peer) : (s.setPeers x).regulator = s.regulator := rfl
@[simp] theorem State.setPeers_gates (s : State) (x : List Peer) : (s.setPeers x).gates = s.gates := rfl
@[simp] theorem State.setPeers_protection (s : State) (x : List Peer) : (s.setPeers x).protection = s.protection := rfl
@[simp] theorem State.setPeers_events (s : State) (x : List Peer) : (s.setPeers x).events = s.events := rfl
@[simp] theorem State.setPeers_fault (s : State) (x : List Peer) : (s.setPeers x).fault = s.fault := rfl
@[simp] theorem State.setPeers_port (s : State) (x : List Peer) : (s.setPeers x).port = s.port := rfl

/-! ### `State.setAllocator` -/

@[simp] theorem State.setAllocator_pending (s : State) (x : Allocator) : (s.setAllocator x).pending = s.pending := rfl
@[simp] theorem State.setAllocator_time (s : State) (x : Allocator) : (s.setAllocator x).time = s.time := rfl
@[simp] theorem State.setAllocator_station (s : State) (x : Allocator) : (s.setAllocator x).station = s.station := rfl
@[simp] theorem State.setAllocator_tracker (s : State) (x : Allocator) : (s.setAllocator x).tracker = s.tracker := rfl
@[simp] theorem State.setAllocator_sampler (s : State) (x : Allocator) : (s.setAllocator x).sampler = s.sampler := rfl
@[simp] theorem State.setAllocator_classifier (s : State) (x : Allocator) : (s.setAllocator x).classifier = s.classifier := rfl
@[simp] theorem State.setAllocator_line (s : State) (x : Allocator) : (s.setAllocator x).line = s.line := rfl
@[simp] theorem State.setAllocator_filter (s : State) (x : Allocator) : (s.setAllocator x).filter = s.filter := rfl
@[simp] theorem State.setAllocator_peers (s : State) (x : Allocator) : (s.setAllocator x).peers = s.peers := rfl
@[simp] theorem State.setAllocator_allocator (s : State) (x : Allocator) : (s.setAllocator x).allocator = x := rfl
@[simp] theorem State.setAllocator_regulator (s : State) (x : Allocator) : (s.setAllocator x).regulator = s.regulator := rfl
@[simp] theorem State.setAllocator_gates (s : State) (x : Allocator) : (s.setAllocator x).gates = s.gates := rfl
@[simp] theorem State.setAllocator_protection (s : State) (x : Allocator) : (s.setAllocator x).protection = s.protection := rfl
@[simp] theorem State.setAllocator_events (s : State) (x : Allocator) : (s.setAllocator x).events = s.events := rfl
@[simp] theorem State.setAllocator_fault (s : State) (x : Allocator) : (s.setAllocator x).fault = s.fault := rfl
@[simp] theorem State.setAllocator_port (s : State) (x : Allocator) : (s.setAllocator x).port = s.port := rfl

/-! ### `State.setRegulator` -/

@[simp] theorem State.setRegulator_pending (s : State) (x : Regulator) : (s.setRegulator x).pending = s.pending := rfl
@[simp] theorem State.setRegulator_time (s : State) (x : Regulator) : (s.setRegulator x).time = s.time := rfl
@[simp] theorem State.setRegulator_station (s : State) (x : Regulator) : (s.setRegulator x).station = s.station := rfl
@[simp] theorem State.setRegulator_tracker (s : State) (x : Regulator) : (s.setRegulator x).tracker = s.tracker := rfl
@[simp] theorem State.setRegulator_sampler (s : State) (x : Regulator) : (s.setRegulator x).sampler = s.sampler := rfl
@[simp] theorem State.setRegulator_classifier (s : State) (x : Regulator) : (s.setRegulator x).classifier = s.classifier := rfl
@[simp] theorem State.setRegulator_line (s : State) (x : Regulator) : (s.setRegulator x).line = s.line := rfl
@[simp] theorem State.setRegulator_filter (s : State) (x : Regulator) : (s.setRegulator x).filter = s.filter := rfl
@[simp] theorem State.setRegulator_peers (s : State) (x : Regulator) : (s.setRegulator x).peers = s.peers := rfl
@[simp] theorem State.setRegulator_allocator (s : State) (x : Regulator) : (s.setRegulator x).allocator = s.allocator := rfl
@[simp] theorem State.setRegulator_regulator (s : State) (x : Regulator) : (s.setRegulator x).regulator = x := rfl
@[simp] theorem State.setRegulator_gates (s : State) (x : Regulator) : (s.setRegulator x).gates = s.gates := rfl
@[simp] theorem State.setRegulator_protection (s : State) (x : Regulator) : (s.setRegulator x).protection = s.protection := rfl
@[simp] theorem State.setRegulator_events (s : State) (x : Regulator) : (s.setRegulator x).events = s.events := rfl
@[simp] theorem State.setRegulator_fault (s : State) (x : Regulator) : (s.setRegulator x).fault = s.fault := rfl
@[simp] theorem State.setRegulator_port (s : State) (x : Regulator) : (s.setRegulator x).port = s.port := rfl

/-! ### `State.setGates` -/

@[simp] theorem State.setGates_pending (s : State) (x : Gates) : (s.setGates x).pending = s.pending := rfl
@[simp] theorem State.setGates_time (s : State) (x : Gates) : (s.setGates x).time = s.time := rfl
@[simp] theorem State.setGates_station (s : State) (x : Gates) : (s.setGates x).station = s.station := rfl
@[simp] theorem State.setGates_tracker (s : State) (x : Gates) : (s.setGates x).tracker = s.tracker := rfl
@[simp] theorem State.setGates_sampler (s : State) (x : Gates) : (s.setGates x).sampler = s.sampler := rfl
@[simp] theorem State.setGates_classifier (s : State) (x : Gates) : (s.setGates x).classifier = s.classifier := rfl
@[simp] theorem State.setGates_line (s : State) (x : Gates) : (s.setGates x).line = s.line := rfl
@[simp] theorem State.setGates_filter (s : State) (x : Gates) : (s.setGates x).filter = s.filter := rfl
@[simp] theorem State.setGates_peers (s : State) (x : Gates) : (s.setGates x).peers = s.peers := rfl
@[simp] theorem State.setGates_allocator (s : State) (x : Gates) : (s.setGates x).allocator = s.allocator := rfl
@[simp] theorem State.setGates_regulator (s : State) (x : Gates) : (s.setGates x).regulator = s.regulator := rfl
@[simp] theorem State.setGates_gates (s : State) (x : Gates) : (s.setGates x).gates = x := rfl
@[simp] theorem State.setGates_protection (s : State) (x : Gates) : (s.setGates x).protection = s.protection := rfl
@[simp] theorem State.setGates_events (s : State) (x : Gates) : (s.setGates x).events = s.events := rfl
@[simp] theorem State.setGates_fault (s : State) (x : Gates) : (s.setGates x).fault = s.fault := rfl
@[simp] theorem State.setGates_port (s : State) (x : Gates) : (s.setGates x).port = s.port := rfl

/-! ### `State.setProtection` -/

@[simp] theorem State.setProtection_pending (s : State) (x : Vector ProtectionInput 4) : (s.setProtection x).pending = s.pending := rfl
@[simp] theorem State.setProtection_time (s : State) (x : Vector ProtectionInput 4) : (s.setProtection x).time = s.time := rfl
@[simp] theorem State.setProtection_station (s : State) (x : Vector ProtectionInput 4) : (s.setProtection x).station = s.station := rfl
@[simp] theorem State.setProtection_tracker (s : State) (x : Vector ProtectionInput 4) : (s.setProtection x).tracker = s.tracker := rfl
@[simp] theorem State.setProtection_sampler (s : State) (x : Vector ProtectionInput 4) : (s.setProtection x).sampler = s.sampler := rfl
@[simp] theorem State.setProtection_classifier (s : State) (x : Vector ProtectionInput 4) : (s.setProtection x).classifier = s.classifier := rfl
@[simp] theorem State.setProtection_line (s : State) (x : Vector ProtectionInput 4) : (s.setProtection x).line = s.line := rfl
@[simp] theorem State.setProtection_filter (s : State) (x : Vector ProtectionInput 4) : (s.setProtection x).filter = s.filter := rfl
@[simp] theorem State.setProtection_peers (s : State) (x : Vector ProtectionInput 4) : (s.setProtection x).peers = s.peers := rfl
@[simp] theorem State.setProtection_allocator (s : State) (x : Vector ProtectionInput 4) : (s.setProtection x).allocator = s.allocator := rfl
@[simp] theorem State.setProtection_regulator (s : State) (x : Vector ProtectionInput 4) : (s.setProtection x).regulator = s.regulator := rfl
@[simp] theorem State.setProtection_gates (s : State) (x : Vector ProtectionInput 4) : (s.setProtection x).gates = s.gates := rfl
@[simp] theorem State.setProtection_protection (s : State) (x : Vector ProtectionInput 4) : (s.setProtection x).protection = x := rfl
@[simp] theorem State.setProtection_events (s : State) (x : Vector ProtectionInput 4) : (s.setProtection x).events = s.events := rfl
@[simp] theorem State.setProtection_fault (s : State) (x : Vector ProtectionInput 4) : (s.setProtection x).fault = s.fault := rfl
@[simp] theorem State.setProtection_port (s : State) (x : Vector ProtectionInput 4) : (s.setProtection x).port = s.port := rfl

/-! ### `State.setEvents` -/

@[simp] theorem State.setEvents_pending (s : State) (x : EventUnit) : (s.setEvents x).pending = s.pending := rfl
@[simp] theorem State.setEvents_time (s : State) (x : EventUnit) : (s.setEvents x).time = s.time := rfl
@[simp] theorem State.setEvents_station (s : State) (x : EventUnit) : (s.setEvents x).station = s.station := rfl
@[simp] theorem State.setEvents_tracker (s : State) (x : EventUnit) : (s.setEvents x).tracker = s.tracker := rfl
@[simp] theorem State.setEvents_sampler (s : State) (x : EventUnit) : (s.setEvents x).sampler = s.sampler := rfl
@[simp] theorem State.setEvents_classifier (s : State) (x : EventUnit) : (s.setEvents x).classifier = s.classifier := rfl
@[simp] theorem State.setEvents_line (s : State) (x : EventUnit) : (s.setEvents x).line = s.line := rfl
@[simp] theorem State.setEvents_filter (s : State) (x : EventUnit) : (s.setEvents x).filter = s.filter := rfl
@[simp] theorem State.setEvents_peers (s : State) (x : EventUnit) : (s.setEvents x).peers = s.peers := rfl
@[simp] theorem State.setEvents_allocator (s : State) (x : EventUnit) : (s.setEvents x).allocator = s.allocator := rfl
@[simp] theorem State.setEvents_regulator (s : State) (x : EventUnit) : (s.setEvents x).regulator = s.regulator := rfl
@[simp] theorem State.setEvents_gates (s : State) (x : EventUnit) : (s.setEvents x).gates = s.gates := rfl
@[simp] theorem State.setEvents_protection (s : State) (x : EventUnit) : (s.setEvents x).protection = s.protection := rfl
@[simp] theorem State.setEvents_events (s : State) (x : EventUnit) : (s.setEvents x).events = x := rfl
@[simp] theorem State.setEvents_fault (s : State) (x : EventUnit) : (s.setEvents x).fault = s.fault := rfl
@[simp] theorem State.setEvents_port (s : State) (x : EventUnit) : (s.setEvents x).port = s.port := rfl

/-! ### `State.setFault` -/

@[simp] theorem State.setFault_pending (s : State) (x : FaultRecord) : (s.setFault x).pending = s.pending := rfl
@[simp] theorem State.setFault_time (s : State) (x : FaultRecord) : (s.setFault x).time = s.time := rfl
@[simp] theorem State.setFault_station (s : State) (x : FaultRecord) : (s.setFault x).station = s.station := rfl
@[simp] theorem State.setFault_tracker (s : State) (x : FaultRecord) : (s.setFault x).tracker = s.tracker := rfl
@[simp] theorem State.setFault_sampler (s : State) (x : FaultRecord) : (s.setFault x).sampler = s.sampler := rfl
@[simp] theorem State.setFault_classifier (s : State) (x : FaultRecord) : (s.setFault x).classifier = s.classifier := rfl
@[simp] theorem State.setFault_line (s : State) (x : FaultRecord) : (s.setFault x).line = s.line := rfl
@[simp] theorem State.setFault_filter (s : State) (x : FaultRecord) : (s.setFault x).filter = s.filter := rfl
@[simp] theorem State.setFault_peers (s : State) (x : FaultRecord) : (s.setFault x).peers = s.peers := rfl
@[simp] theorem State.setFault_allocator (s : State) (x : FaultRecord) : (s.setFault x).allocator = s.allocator := rfl
@[simp] theorem State.setFault_regulator (s : State) (x : FaultRecord) : (s.setFault x).regulator = s.regulator := rfl
@[simp] theorem State.setFault_gates (s : State) (x : FaultRecord) : (s.setFault x).gates = s.gates := rfl
@[simp] theorem State.setFault_protection (s : State) (x : FaultRecord) : (s.setFault x).protection = s.protection := rfl
@[simp] theorem State.setFault_events (s : State) (x : FaultRecord) : (s.setFault x).events = s.events := rfl
@[simp] theorem State.setFault_fault (s : State) (x : FaultRecord) : (s.setFault x).fault = x := rfl
@[simp] theorem State.setFault_port (s : State) (x : FaultRecord) : (s.setFault x).port = s.port := rfl

/-! ### `State.setPort` -/

@[simp] theorem State.setPort_pending (s : State) (x : SupervisorPort) : (s.setPort x).pending = s.pending := rfl
@[simp] theorem State.setPort_time (s : State) (x : SupervisorPort) : (s.setPort x).time = s.time := rfl
@[simp] theorem State.setPort_station (s : State) (x : SupervisorPort) : (s.setPort x).station = s.station := rfl
@[simp] theorem State.setPort_tracker (s : State) (x : SupervisorPort) : (s.setPort x).tracker = s.tracker := rfl
@[simp] theorem State.setPort_sampler (s : State) (x : SupervisorPort) : (s.setPort x).sampler = s.sampler := rfl
@[simp] theorem State.setPort_classifier (s : State) (x : SupervisorPort) : (s.setPort x).classifier = s.classifier := rfl
@[simp] theorem State.setPort_line (s : State) (x : SupervisorPort) : (s.setPort x).line = s.line := rfl
@[simp] theorem State.setPort_filter (s : State) (x : SupervisorPort) : (s.setPort x).filter = s.filter := rfl
@[simp] theorem State.setPort_peers (s : State) (x : SupervisorPort) : (s.setPort x).peers = s.peers := rfl
@[simp] theorem State.setPort_allocator (s : State) (x : SupervisorPort) : (s.setPort x).allocator = s.allocator := rfl
@[simp] theorem State.setPort_regulator (s : State) (x : SupervisorPort) : (s.setPort x).regulator = s.regulator := rfl
@[simp] theorem State.setPort_gates (s : State) (x : SupervisorPort) : (s.setPort x).gates = s.gates := rfl
@[simp] theorem State.setPort_protection (s : State) (x : SupervisorPort) : (s.setPort x).protection = s.protection := rfl
@[simp] theorem State.setPort_events (s : State) (x : SupervisorPort) : (s.setPort x).events = s.events := rfl
@[simp] theorem State.setPort_fault (s : State) (x : SupervisorPort) : (s.setPort x).fault = s.fault := rfl
@[simp] theorem State.setPort_port (s : State) (x : SupervisorPort) : (s.setPort x).port = x := rfl

end Sys2Proof.Machine
end

