-- ==== Sys2Proof/Laws/Frame.lean ====
section
/-! SUPPORT. What each operation over the whole state leaves unchanged, once per operation. -/

namespace Sys2Proof.Machine

/-! ### Ops -/

@[simp] theorem State.count_frame (s : State) (k : EventKind) :
    (s.count k).pending = s.pending ∧
      (s.count k).time = s.time ∧
      (s.count k).station = s.station ∧
      (s.count k).tracker = s.tracker ∧
      (s.count k).sampler = s.sampler ∧
      (s.count k).classifier = s.classifier ∧
      (s.count k).line = s.line ∧
      (s.count k).filter = s.filter ∧
      (s.count k).peers = s.peers ∧
      (s.count k).allocator = s.allocator ∧
      (s.count k).regulator = s.regulator ∧
      (s.count k).gates = s.gates ∧
      (s.count k).protection = s.protection ∧
      (s.count k).fault = s.fault ∧
      (s.count k).port = s.port := by
  unfold State.count
  simp

@[simp] theorem State.elapse_frame (s : State) (us : Nat) :
    (s.elapse us).pending = s.pending ∧
      (s.elapse us).station = s.station ∧
      (s.elapse us).tracker = s.tracker ∧
      (s.elapse us).sampler = s.sampler ∧
      (s.elapse us).filter = s.filter ∧
      (s.elapse us).regulator = s.regulator ∧
      (s.elapse us).gates = s.gates ∧
      (s.elapse us).events = s.events ∧
      (s.elapse us).fault = s.fault ∧
      (s.elapse us).port = s.port := by
  unfold State.elapse State.elapseConfigured State.configured
  split <;> simp

/-! ### Operands -/

@[simp] theorem State.answer_frame (s : State) (r : Response) :
    (s.answer r).pending = s.pending ∧
      (s.answer r).time = s.time ∧
      (s.answer r).station = s.station ∧
      (s.answer r).tracker = s.tracker ∧
      (s.answer r).sampler = s.sampler ∧
      (s.answer r).classifier = s.classifier ∧
      (s.answer r).line = s.line ∧
      (s.answer r).filter = s.filter ∧
      (s.answer r).peers = s.peers ∧
      (s.answer r).allocator = s.allocator ∧
      (s.answer r).regulator = s.regulator ∧
      (s.answer r).gates = s.gates ∧
      (s.answer r).protection = s.protection ∧
      (s.answer r).events = s.events ∧
      (s.answer r).fault = s.fault := by
  unfold State.answer
  (try dsimp only)
  simp

/-! ### Gates -/

@[simp] theorem State.fire_frame (s : State) (cfg : Configuration) :
    (s.fire cfg).pending = s.pending ∧
      (s.fire cfg).time = s.time ∧
      (s.fire cfg).station = s.station ∧
      (s.fire cfg).tracker = s.tracker ∧
      (s.fire cfg).sampler = s.sampler ∧
      (s.fire cfg).classifier = s.classifier ∧
      (s.fire cfg).line = s.line ∧
      (s.fire cfg).filter = s.filter ∧
      (s.fire cfg).peers = s.peers ∧
      (s.fire cfg).allocator = s.allocator ∧
      (s.fire cfg).regulator = s.regulator ∧
      (s.fire cfg).protection = s.protection ∧
      (s.fire cfg).events = s.events ∧
      (s.fire cfg).fault = s.fault ∧
      (s.fire cfg).port = s.port := by
  unfold State.fire
  (try dsimp only)
  (repeat' split) <;> simp

/-! ### Station -/

@[simp] theorem State.queueFrame_frame (s : State) (body : Body) :
    (s.queueFrame body).pending = s.pending ∧
      (s.queueFrame body).time = s.time ∧
      (s.queueFrame body).station = s.station ∧
      (s.queueFrame body).tracker = s.tracker ∧
      (s.queueFrame body).sampler = s.sampler ∧
      (s.queueFrame body).classifier = s.classifier ∧
      (s.queueFrame body).filter = s.filter ∧
      (s.queueFrame body).peers = s.peers ∧
      (s.queueFrame body).allocator = s.allocator ∧
      (s.queueFrame body).regulator = s.regulator ∧
      (s.queueFrame body).gates = s.gates ∧
      (s.queueFrame body).protection = s.protection ∧
      (s.queueFrame body).fault = s.fault ∧
      (s.queueFrame body).port = s.port := by
  unfold State.queueFrame
  (repeat' split) <;> simp

@[simp] theorem State.enter_frame (s : State) (cfg : Configuration) (dest : StationState) :
    (s.enter cfg dest).pending = s.pending ∧
      (s.enter cfg dest).time = s.time ∧
      (s.enter cfg dest).tracker = s.tracker ∧
      (s.enter cfg dest).sampler = s.sampler ∧
      (s.enter cfg dest).classifier = s.classifier ∧
      (s.enter cfg dest).filter = s.filter ∧
      (s.enter cfg dest).peers = s.peers ∧
      (s.enter cfg dest).protection = s.protection ∧
      (s.enter cfg dest).events = s.events ∧
      (s.enter cfg dest).fault = s.fault ∧
      (s.enter cfg dest).port = s.port := by
  unfold State.enter
  (try dsimp only)
  simp

@[simp] theorem State.emptyStack_frame (s : State) :
    (s.emptyStack).pending = s.pending ∧
      (s.emptyStack).time = s.time ∧
      (s.emptyStack).tracker = s.tracker ∧
      (s.emptyStack).sampler = s.sampler ∧
      (s.emptyStack).classifier = s.classifier ∧
      (s.emptyStack).line = s.line ∧
      (s.emptyStack).filter = s.filter ∧
      (s.emptyStack).peers = s.peers ∧
      (s.emptyStack).allocator = s.allocator ∧
      (s.emptyStack).regulator = s.regulator ∧
      (s.emptyStack).gates = s.gates ∧
      (s.emptyStack).protection = s.protection ∧
      (s.emptyStack).events = s.events ∧
      (s.emptyStack).fault = s.fault ∧
      (s.emptyStack).port = s.port := by
  unfold State.emptyStack
  (try dsimp only)
  simp

@[simp] theorem State.enterStandby_frame (s : State) (cfg : Configuration) (origin : StandbyOrigin) :
    (s.enterStandby cfg origin).pending = s.pending ∧
      (s.enterStandby cfg origin).time = s.time ∧
      (s.enterStandby cfg origin).tracker = s.tracker ∧
      (s.enterStandby cfg origin).sampler = s.sampler ∧
      (s.enterStandby cfg origin).classifier = s.classifier ∧
      (s.enterStandby cfg origin).filter = s.filter ∧
      (s.enterStandby cfg origin).peers = s.peers ∧
      (s.enterStandby cfg origin).protection = s.protection ∧
      (s.enterStandby cfg origin).events = s.events ∧
      (s.enterStandby cfg origin).fault = s.fault ∧
      (s.enterStandby cfg origin).port = s.port := by
  unfold State.enterStandby
  (try dsimp only)
  simp

@[simp] theorem State.enterStopping_frame (s : State) (cfg : Configuration) (destination : Destination) (origin : Option StoppingOrigin) :
    (s.enterStopping cfg destination origin).pending = s.pending ∧
      (s.enterStopping cfg destination origin).time = s.time ∧
      (s.enterStopping cfg destination origin).tracker = s.tracker ∧
      (s.enterStopping cfg destination origin).sampler = s.sampler ∧
      (s.enterStopping cfg destination origin).classifier = s.classifier ∧
      (s.enterStopping cfg destination origin).filter = s.filter ∧
      (s.enterStopping cfg destination origin).peers = s.peers ∧
      (s.enterStopping cfg destination origin).protection = s.protection ∧
      (s.enterStopping cfg destination origin).events = s.events ∧
      (s.enterStopping cfg destination origin).fault = s.fault ∧
      (s.enterStopping cfg destination origin).port = s.port := by
  unfold State.enterStopping
  (try dsimp only)
  simp

@[simp] theorem State.queueAlert_frame (s : State) (kind : AlertKind) :
    (s.queueAlert kind).pending = s.pending ∧
      (s.queueAlert kind).time = s.time ∧
      (s.queueAlert kind).station = s.station ∧
      (s.queueAlert kind).tracker = s.tracker ∧
      (s.queueAlert kind).sampler = s.sampler ∧
      (s.queueAlert kind).classifier = s.classifier ∧
      (s.queueAlert kind).filter = s.filter ∧
      (s.queueAlert kind).peers = s.peers ∧
      (s.queueAlert kind).allocator = s.allocator ∧
      (s.queueAlert kind).regulator = s.regulator ∧
      (s.queueAlert kind).gates = s.gates ∧
      (s.queueAlert kind).protection = s.protection ∧
      (s.queueAlert kind).fault = s.fault ∧
      (s.queueAlert kind).port = s.port := by
  unfold State.queueAlert
  simp

@[simp] theorem State.trip_frame (s : State) (cfg : Configuration) (cause : TripCause) :
    (s.trip cfg cause).pending = s.pending ∧
      (s.trip cfg cause).time = s.time ∧
      (s.trip cfg cause).tracker = s.tracker ∧
      (s.trip cfg cause).sampler = s.sampler ∧
      (s.trip cfg cause).classifier = s.classifier ∧
      (s.trip cfg cause).filter = s.filter ∧
      (s.trip cfg cause).peers = s.peers ∧
      (s.trip cfg cause).protection = s.protection ∧
      (s.trip cfg cause).port = s.port := by
  unfold State.trip
  (try dsimp only)
  (repeat' split) <;> simp

@[simp] theorem State.protectionStandby_frame (s : State) (cfg : Configuration) :
    (s.protectionStandby cfg).pending = s.pending ∧
      (s.protectionStandby cfg).time = s.time ∧
      (s.protectionStandby cfg).tracker = s.tracker ∧
      (s.protectionStandby cfg).sampler = s.sampler ∧
      (s.protectionStandby cfg).classifier = s.classifier ∧
      (s.protectionStandby cfg).filter = s.filter ∧
      (s.protectionStandby cfg).peers = s.peers ∧
      (s.protectionStandby cfg).protection = s.protection ∧
      (s.protectionStandby cfg).fault = s.fault ∧
      (s.protectionStandby cfg).port = s.port := by
  unfold State.protectionStandby
  (repeat' split) <;> simp

@[simp] theorem State.testStart_frame (s : State) (cfg : Configuration) :
    (s.testStart cfg).pending = s.pending ∧
      (s.testStart cfg).time = s.time ∧
      (s.testStart cfg).tracker = s.tracker ∧
      (s.testStart cfg).sampler = s.sampler ∧
      (s.testStart cfg).classifier = s.classifier ∧
      (s.testStart cfg).filter = s.filter ∧
      (s.testStart cfg).peers = s.peers ∧
      (s.testStart cfg).protection = s.protection ∧
      (s.testStart cfg).events = s.events ∧
      (s.testStart cfg).fault = s.fault ∧
      (s.testStart cfg).port = s.port := by
  unfold State.testStart
  (repeat' split) <;> simp

@[simp] theorem State.enterDestination_frame (s : State) (cfg : Configuration) :
    (s.enterDestination cfg).pending = s.pending ∧
      (s.enterDestination cfg).time = s.time ∧
      (s.enterDestination cfg).tracker = s.tracker ∧
      (s.enterDestination cfg).sampler = s.sampler ∧
      (s.enterDestination cfg).classifier = s.classifier ∧
      (s.enterDestination cfg).filter = s.filter ∧
      (s.enterDestination cfg).peers = s.peers ∧
      (s.enterDestination cfg).protection = s.protection ∧
      (s.enterDestination cfg).events = s.events ∧
      (s.enterDestination cfg).fault = s.fault ∧
      (s.enterDestination cfg).port = s.port := by
  unfold State.enterDestination
  (repeat' split) <;> simp

@[simp] theorem State.testStopping_frame (s : State) (cfg : Configuration) :
    (s.testStopping cfg).pending = s.pending ∧
      (s.testStopping cfg).time = s.time ∧
      (s.testStopping cfg).tracker = s.tracker ∧
      (s.testStopping cfg).sampler = s.sampler ∧
      (s.testStopping cfg).classifier = s.classifier ∧
      (s.testStopping cfg).filter = s.filter ∧
      (s.testStopping cfg).peers = s.peers ∧
      (s.testStopping cfg).protection = s.protection ∧
      (s.testStopping cfg).events = s.events ∧
      (s.testStopping cfg).fault = s.fault ∧
      (s.testStopping cfg).port = s.port := by
  unfold State.testStopping
  (repeat' split) <;> simp

@[simp] theorem State.boundaryTests_frame (s : State) (cfg : Configuration) :
    (s.boundaryTests cfg).pending = s.pending ∧
      (s.boundaryTests cfg).time = s.time ∧
      (s.boundaryTests cfg).tracker = s.tracker ∧
      (s.boundaryTests cfg).sampler = s.sampler ∧
      (s.boundaryTests cfg).classifier = s.classifier ∧
      (s.boundaryTests cfg).filter = s.filter ∧
      (s.boundaryTests cfg).peers = s.peers ∧
      (s.boundaryTests cfg).protection = s.protection ∧
      (s.boundaryTests cfg).events = s.events ∧
      (s.boundaryTests cfg).fault = s.fault ∧
      (s.boundaryTests cfg).port = s.port := by
  unfold State.boundaryTests
  (repeat' split) <;> simp

@[simp] theorem State.pushContext_frame (s : State) (setpointAtEntry : Nat) :
    (s.pushContext setpointAtEntry).pending = s.pending ∧
      (s.pushContext setpointAtEntry).time = s.time ∧
      (s.pushContext setpointAtEntry).tracker = s.tracker ∧
      (s.pushContext setpointAtEntry).sampler = s.sampler ∧
      (s.pushContext setpointAtEntry).classifier = s.classifier ∧
      (s.pushContext setpointAtEntry).line = s.line ∧
      (s.pushContext setpointAtEntry).filter = s.filter ∧
      (s.pushContext setpointAtEntry).peers = s.peers ∧
      (s.pushContext setpointAtEntry).allocator = s.allocator ∧
      (s.pushContext setpointAtEntry).regulator = s.regulator ∧
      (s.pushContext setpointAtEntry).gates = s.gates ∧
      (s.pushContext setpointAtEntry).protection = s.protection ∧
      (s.pushContext setpointAtEntry).events = s.events ∧
      (s.pushContext setpointAtEntry).fault = s.fault ∧
      (s.pushContext setpointAtEntry).port = s.port := by
  unfold State.pushContext
  (try dsimp only)
  simp

@[simp] theorem State.rideOut_frame (s : State) (cfg : Configuration) (setpointAtEntry : Nat) :
    (s.rideOut cfg setpointAtEntry).pending = s.pending ∧
      (s.rideOut cfg setpointAtEntry).time = s.time ∧
      (s.rideOut cfg setpointAtEntry).tracker = s.tracker ∧
      (s.rideOut cfg setpointAtEntry).sampler = s.sampler ∧
      (s.rideOut cfg setpointAtEntry).classifier = s.classifier ∧
      (s.rideOut cfg setpointAtEntry).filter = s.filter ∧
      (s.rideOut cfg setpointAtEntry).peers = s.peers ∧
      (s.rideOut cfg setpointAtEntry).protection = s.protection ∧
      (s.rideOut cfg setpointAtEntry).fault = s.fault ∧
      (s.rideOut cfg setpointAtEntry).port = s.port := by
  unfold State.rideOut
  simp

@[simp] theorem State.enterBlocked_frame (s : State) (cfg : Configuration) :
    (s.enterBlocked cfg).pending = s.pending ∧
      (s.enterBlocked cfg).time = s.time ∧
      (s.enterBlocked cfg).tracker = s.tracker ∧
      (s.enterBlocked cfg).sampler = s.sampler ∧
      (s.enterBlocked cfg).classifier = s.classifier ∧
      (s.enterBlocked cfg).filter = s.filter ∧
      (s.enterBlocked cfg).peers = s.peers ∧
      (s.enterBlocked cfg).protection = s.protection ∧
      (s.enterBlocked cfg).fault = s.fault ∧
      (s.enterBlocked cfg).port = s.port := by
  unfold State.enterBlocked
  simp

@[simp] theorem State.escalate_frame (s : State) (cfg : Configuration) :
    (s.escalate cfg).pending = s.pending ∧
      (s.escalate cfg).time = s.time ∧
      (s.escalate cfg).tracker = s.tracker ∧
      (s.escalate cfg).sampler = s.sampler ∧
      (s.escalate cfg).classifier = s.classifier ∧
      (s.escalate cfg).filter = s.filter ∧
      (s.escalate cfg).peers = s.peers ∧
      (s.escalate cfg).protection = s.protection ∧
      (s.escalate cfg).fault = s.fault ∧
      (s.escalate cfg).port = s.port := by
  unfold State.escalate
  simp

@[simp] theorem State.reactTo_frame (s : State) (cfg : Configuration) (t : Transition) (setpointAtEntry : Nat) :
    (s.reactTo cfg t setpointAtEntry).pending = s.pending ∧
      (s.reactTo cfg t setpointAtEntry).time = s.time ∧
      (s.reactTo cfg t setpointAtEntry).tracker = s.tracker ∧
      (s.reactTo cfg t setpointAtEntry).sampler = s.sampler ∧
      (s.reactTo cfg t setpointAtEntry).classifier = s.classifier ∧
      (s.reactTo cfg t setpointAtEntry).filter = s.filter ∧
      (s.reactTo cfg t setpointAtEntry).peers = s.peers ∧
      (s.reactTo cfg t setpointAtEntry).protection = s.protection ∧
      (s.reactTo cfg t setpointAtEntry).fault = s.fault ∧
      (s.reactTo cfg t setpointAtEntry).port = s.port := by
  unfold State.reactTo
  (repeat' split) <;> simp

@[simp] theorem State.completeRestart_frame (s : State) (cfg : Configuration) :
    (s.completeRestart cfg).pending = s.pending ∧
      (s.completeRestart cfg).time = s.time ∧
      (s.completeRestart cfg).tracker = s.tracker ∧
      (s.completeRestart cfg).sampler = s.sampler ∧
      (s.completeRestart cfg).classifier = s.classifier ∧
      (s.completeRestart cfg).filter = s.filter ∧
      (s.completeRestart cfg).peers = s.peers ∧
      (s.completeRestart cfg).protection = s.protection ∧
      (s.completeRestart cfg).fault = s.fault ∧
      (s.completeRestart cfg).port = s.port := by
  unfold State.completeRestart
  simp

@[simp] theorem State.endOfUpdate_frame (s : State) (cfg : Configuration) (elapsedMs : Nat) :
    (s.endOfUpdate cfg elapsedMs).pending = s.pending ∧
      (s.endOfUpdate cfg elapsedMs).time = s.time ∧
      (s.endOfUpdate cfg elapsedMs).tracker = s.tracker ∧
      (s.endOfUpdate cfg elapsedMs).sampler = s.sampler ∧
      (s.endOfUpdate cfg elapsedMs).classifier = s.classifier ∧
      (s.endOfUpdate cfg elapsedMs).filter = s.filter ∧
      (s.endOfUpdate cfg elapsedMs).peers = s.peers ∧
      (s.endOfUpdate cfg elapsedMs).protection = s.protection ∧
      (s.endOfUpdate cfg elapsedMs).fault = s.fault ∧
      (s.endOfUpdate cfg elapsedMs).port = s.port := by
  unfold State.endOfUpdate
  (repeat' split) <;> simp

@[simp] theorem State.takeStart_frame (s : State) (cfg : Configuration) :
    (s.takeStart cfg).pending = s.pending ∧
      (s.takeStart cfg).time = s.time ∧
      (s.takeStart cfg).tracker = s.tracker ∧
      (s.takeStart cfg).sampler = s.sampler ∧
      (s.takeStart cfg).classifier = s.classifier ∧
      (s.takeStart cfg).filter = s.filter ∧
      (s.takeStart cfg).peers = s.peers ∧
      (s.takeStart cfg).protection = s.protection ∧
      (s.takeStart cfg).events = s.events ∧
      (s.takeStart cfg).fault = s.fault := by
  unfold State.takeStart
  (repeat' split) <;> simp

@[simp] theorem State.takeStop_frame (s : State) (cfg : Configuration) :
    (s.takeStop cfg).pending = s.pending ∧
      (s.takeStop cfg).time = s.time ∧
      (s.takeStop cfg).tracker = s.tracker ∧
      (s.takeStop cfg).sampler = s.sampler ∧
      (s.takeStop cfg).classifier = s.classifier ∧
      (s.takeStop cfg).filter = s.filter ∧
      (s.takeStop cfg).peers = s.peers ∧
      (s.takeStop cfg).protection = s.protection ∧
      (s.takeStop cfg).events = s.events ∧
      (s.takeStop cfg).fault = s.fault := by
  unfold State.takeStop
  (try dsimp only)
  (repeat' split) <;> simp

@[simp] theorem State.takeStandby_frame (s : State) (cfg : Configuration) :
    (s.takeStandby cfg).pending = s.pending ∧
      (s.takeStandby cfg).time = s.time ∧
      (s.takeStandby cfg).tracker = s.tracker ∧
      (s.takeStandby cfg).sampler = s.sampler ∧
      (s.takeStandby cfg).classifier = s.classifier ∧
      (s.takeStandby cfg).filter = s.filter ∧
      (s.takeStandby cfg).peers = s.peers ∧
      (s.takeStandby cfg).protection = s.protection ∧
      (s.takeStandby cfg).events = s.events ∧
      (s.takeStandby cfg).fault = s.fault := by
  unfold State.takeStandby
  (repeat' split) <;> simp

@[simp] theorem State.takeClearFault_frame (s : State) (cfg : Configuration) :
    (s.takeClearFault cfg).pending = s.pending ∧
      (s.takeClearFault cfg).time = s.time ∧
      (s.takeClearFault cfg).tracker = s.tracker ∧
      (s.takeClearFault cfg).sampler = s.sampler ∧
      (s.takeClearFault cfg).classifier = s.classifier ∧
      (s.takeClearFault cfg).filter = s.filter ∧
      (s.takeClearFault cfg).peers = s.peers ∧
      (s.takeClearFault cfg).protection = s.protection ∧
      (s.takeClearFault cfg).events = s.events := by
  unfold State.takeClearFault
  (repeat' split) <;> simp

@[simp] theorem State.blockTimeout_frame (s : State) (cfg : Configuration) :
    (s.blockTimeout cfg).pending = s.pending ∧
      (s.blockTimeout cfg).time = s.time ∧
      (s.blockTimeout cfg).tracker = s.tracker ∧
      (s.blockTimeout cfg).sampler = s.sampler ∧
      (s.blockTimeout cfg).classifier = s.classifier ∧
      (s.blockTimeout cfg).filter = s.filter ∧
      (s.blockTimeout cfg).peers = s.peers ∧
      (s.blockTimeout cfg).protection = s.protection ∧
      (s.blockTimeout cfg).fault = s.fault ∧
      (s.blockTimeout cfg).port = s.port := by
  unfold State.blockTimeout
  simp

@[simp] theorem State.lowLoadExpire_frame (s : State) (cfg : Configuration) :
    (s.lowLoadExpire cfg).pending = s.pending ∧
      (s.lowLoadExpire cfg).time = s.time ∧
      (s.lowLoadExpire cfg).tracker = s.tracker ∧
      (s.lowLoadExpire cfg).sampler = s.sampler ∧
      (s.lowLoadExpire cfg).classifier = s.classifier ∧
      (s.lowLoadExpire cfg).filter = s.filter ∧
      (s.lowLoadExpire cfg).peers = s.peers ∧
      (s.lowLoadExpire cfg).protection = s.protection ∧
      (s.lowLoadExpire cfg).fault = s.fault ∧
      (s.lowLoadExpire cfg).port = s.port := by
  unfold State.lowLoadExpire
  simp

/-! ### Classify -/

@[simp] theorem State.report_frame (s : State) (cfg : Configuration) (c : Classifier) (onset : Bool) (setpointAtEntry : Nat) :
    (s.report cfg c onset setpointAtEntry).pending = s.pending ∧
      (s.report cfg c onset setpointAtEntry).time = s.time ∧
      (s.report cfg c onset setpointAtEntry).tracker = s.tracker ∧
      (s.report cfg c onset setpointAtEntry).sampler = s.sampler ∧
      (s.report cfg c onset setpointAtEntry).filter = s.filter ∧
      (s.report cfg c onset setpointAtEntry).peers = s.peers ∧
      (s.report cfg c onset setpointAtEntry).protection = s.protection ∧
      (s.report cfg c onset setpointAtEntry).fault = s.fault ∧
      (s.report cfg c onset setpointAtEntry).port = s.port := by
  unfold State.report
  simp

@[simp] theorem State.countOnset_frame (s : State) (kind : DisturbanceKind) (entered : ClassifierState) :
    (s.countOnset kind entered).pending = s.pending ∧
      (s.countOnset kind entered).time = s.time ∧
      (s.countOnset kind entered).station = s.station ∧
      (s.countOnset kind entered).tracker = s.tracker ∧
      (s.countOnset kind entered).sampler = s.sampler ∧
      (s.countOnset kind entered).classifier = s.classifier ∧
      (s.countOnset kind entered).line = s.line ∧
      (s.countOnset kind entered).filter = s.filter ∧
      (s.countOnset kind entered).peers = s.peers ∧
      (s.countOnset kind entered).allocator = s.allocator ∧
      (s.countOnset kind entered).regulator = s.regulator ∧
      (s.countOnset kind entered).gates = s.gates ∧
      (s.countOnset kind entered).protection = s.protection ∧
      (s.countOnset kind entered).fault = s.fault ∧
      (s.countOnset kind entered).port = s.port := by
  unfold State.countOnset
  (try dsimp only)
  (repeat' split) <;> simp

@[simp] theorem State.openDisturbance_frame (s : State) (cfg : Configuration) (kind : DisturbanceKind) (entered : ClassifierState) (setpointAtEntry : Nat) :
    (s.openDisturbance cfg kind entered setpointAtEntry).pending = s.pending ∧
      (s.openDisturbance cfg kind entered setpointAtEntry).time = s.time ∧
      (s.openDisturbance cfg kind entered setpointAtEntry).tracker = s.tracker ∧
      (s.openDisturbance cfg kind entered setpointAtEntry).sampler = s.sampler ∧
      (s.openDisturbance cfg kind entered setpointAtEntry).filter = s.filter ∧
      (s.openDisturbance cfg kind entered setpointAtEntry).peers = s.peers ∧
      (s.openDisturbance cfg kind entered setpointAtEntry).protection = s.protection ∧
      (s.openDisturbance cfg kind entered setpointAtEntry).fault = s.fault ∧
      (s.openDisturbance cfg kind entered setpointAtEntry).port = s.port := by
  unfold State.openDisturbance
  simp

@[simp] theorem State.goOutside_frame (s : State) (cfg : Configuration) (setpointAtEntry : Nat) :
    (s.goOutside cfg setpointAtEntry).pending = s.pending ∧
      (s.goOutside cfg setpointAtEntry).time = s.time ∧
      (s.goOutside cfg setpointAtEntry).tracker = s.tracker ∧
      (s.goOutside cfg setpointAtEntry).sampler = s.sampler ∧
      (s.goOutside cfg setpointAtEntry).filter = s.filter ∧
      (s.goOutside cfg setpointAtEntry).peers = s.peers ∧
      (s.goOutside cfg setpointAtEntry).protection = s.protection ∧
      (s.goOutside cfg setpointAtEntry).fault = s.fault ∧
      (s.goOutside cfg setpointAtEntry).port = s.port := by
  unfold State.goOutside
  (try dsimp only)
  simp

@[simp] theorem State.joinKind_frame (s : State) (kind : DisturbanceKind) :
    (s.joinKind kind).pending = s.pending ∧
      (s.joinKind kind).time = s.time ∧
      (s.joinKind kind).station = s.station ∧
      (s.joinKind kind).tracker = s.tracker ∧
      (s.joinKind kind).sampler = s.sampler ∧
      (s.joinKind kind).line = s.line ∧
      (s.joinKind kind).filter = s.filter ∧
      (s.joinKind kind).peers = s.peers ∧
      (s.joinKind kind).allocator = s.allocator ∧
      (s.joinKind kind).regulator = s.regulator ∧
      (s.joinKind kind).gates = s.gates ∧
      (s.joinKind kind).protection = s.protection ∧
      (s.joinKind kind).events = s.events ∧
      (s.joinKind kind).fault = s.fault ∧
      (s.joinKind kind).port = s.port := by
  unfold State.joinKind
  (try dsimp only)
  simp

@[simp] theorem State.restartConfirm_frame (s : State) :
    (s.restartConfirm).pending = s.pending ∧
      (s.restartConfirm).time = s.time ∧
      (s.restartConfirm).station = s.station ∧
      (s.restartConfirm).tracker = s.tracker ∧
      (s.restartConfirm).sampler = s.sampler ∧
      (s.restartConfirm).line = s.line ∧
      (s.restartConfirm).filter = s.filter ∧
      (s.restartConfirm).peers = s.peers ∧
      (s.restartConfirm).allocator = s.allocator ∧
      (s.restartConfirm).regulator = s.regulator ∧
      (s.restartConfirm).gates = s.gates ∧
      (s.restartConfirm).protection = s.protection ∧
      (s.restartConfirm).events = s.events ∧
      (s.restartConfirm).fault = s.fault ∧
      (s.restartConfirm).port = s.port := by
  unfold State.restartConfirm
  (try dsimp only)
  simp

@[simp] theorem State.sagOnset_frame (s : State) (cfg : Configuration) (v setpointAtEntry : Nat) :
    (s.sagOnset cfg v setpointAtEntry).pending = s.pending ∧
      (s.sagOnset cfg v setpointAtEntry).time = s.time ∧
      (s.sagOnset cfg v setpointAtEntry).tracker = s.tracker ∧
      (s.sagOnset cfg v setpointAtEntry).sampler = s.sampler ∧
      (s.sagOnset cfg v setpointAtEntry).filter = s.filter ∧
      (s.sagOnset cfg v setpointAtEntry).peers = s.peers ∧
      (s.sagOnset cfg v setpointAtEntry).protection = s.protection ∧
      (s.sagOnset cfg v setpointAtEntry).fault = s.fault ∧
      (s.sagOnset cfg v setpointAtEntry).port = s.port := by
  unfold State.sagOnset
  (repeat' split) <;> simp

@[simp] theorem State.testRecovery_frame (s : State) (cfg : Configuration) (v setpointAtEntry : Nat) :
    (s.testRecovery cfg v setpointAtEntry).pending = s.pending ∧
      (s.testRecovery cfg v setpointAtEntry).time = s.time ∧
      (s.testRecovery cfg v setpointAtEntry).tracker = s.tracker ∧
      (s.testRecovery cfg v setpointAtEntry).sampler = s.sampler ∧
      (s.testRecovery cfg v setpointAtEntry).filter = s.filter ∧
      (s.testRecovery cfg v setpointAtEntry).peers = s.peers ∧
      (s.testRecovery cfg v setpointAtEntry).protection = s.protection ∧
      (s.testRecovery cfg v setpointAtEntry).fault = s.fault ∧
      (s.testRecovery cfg v setpointAtEntry).port = s.port := by
  unfold State.testRecovery
  (try dsimp only)
  (repeat' split) <;> simp

@[simp] theorem State.joinSag_frame (s : State) (cfg : Configuration) (v : Nat) :
    (s.joinSag cfg v).pending = s.pending ∧
      (s.joinSag cfg v).time = s.time ∧
      (s.joinSag cfg v).station = s.station ∧
      (s.joinSag cfg v).tracker = s.tracker ∧
      (s.joinSag cfg v).sampler = s.sampler ∧
      (s.joinSag cfg v).line = s.line ∧
      (s.joinSag cfg v).filter = s.filter ∧
      (s.joinSag cfg v).peers = s.peers ∧
      (s.joinSag cfg v).allocator = s.allocator ∧
      (s.joinSag cfg v).regulator = s.regulator ∧
      (s.joinSag cfg v).gates = s.gates ∧
      (s.joinSag cfg v).protection = s.protection ∧
      (s.joinSag cfg v).events = s.events ∧
      (s.joinSag cfg v).fault = s.fault ∧
      (s.joinSag cfg v).port = s.port := by
  unfold State.joinSag
  (repeat' split) <;> simp

@[simp] theorem State.classifyFigure_frame (s : State) (cfg : Configuration) (v setpointAtEntry : Nat) :
    (s.classifyFigure cfg v setpointAtEntry).pending = s.pending ∧
      (s.classifyFigure cfg v setpointAtEntry).time = s.time ∧
      (s.classifyFigure cfg v setpointAtEntry).tracker = s.tracker ∧
      (s.classifyFigure cfg v setpointAtEntry).sampler = s.sampler ∧
      (s.classifyFigure cfg v setpointAtEntry).filter = s.filter ∧
      (s.classifyFigure cfg v setpointAtEntry).peers = s.peers ∧
      (s.classifyFigure cfg v setpointAtEntry).protection = s.protection ∧
      (s.classifyFigure cfg v setpointAtEntry).fault = s.fault ∧
      (s.classifyFigure cfg v setpointAtEntry).port = s.port := by
  unfold State.classifyFigure
  (repeat' split) <;> simp

@[simp] theorem State.classifyPhaseJump_frame (s : State) (cfg : Configuration) :
    (s.classifyPhaseJump cfg).pending = s.pending ∧
      (s.classifyPhaseJump cfg).time = s.time ∧
      (s.classifyPhaseJump cfg).tracker = s.tracker ∧
      (s.classifyPhaseJump cfg).sampler = s.sampler ∧
      (s.classifyPhaseJump cfg).filter = s.filter ∧
      (s.classifyPhaseJump cfg).peers = s.peers ∧
      (s.classifyPhaseJump cfg).protection = s.protection ∧
      (s.classifyPhaseJump cfg).fault = s.fault ∧
      (s.classifyPhaseJump cfg).port = s.port := by
  unfold State.classifyPhaseJump
  (repeat' split) <;> simp

@[simp] theorem State.classifySyncLoss_frame (s : State) (cfg : Configuration) :
    (s.classifySyncLoss cfg).pending = s.pending ∧
      (s.classifySyncLoss cfg).time = s.time ∧
      (s.classifySyncLoss cfg).tracker = s.tracker ∧
      (s.classifySyncLoss cfg).sampler = s.sampler ∧
      (s.classifySyncLoss cfg).filter = s.filter ∧
      (s.classifySyncLoss cfg).peers = s.peers ∧
      (s.classifySyncLoss cfg).protection = s.protection ∧
      (s.classifySyncLoss cfg).fault = s.fault ∧
      (s.classifySyncLoss cfg).port = s.port := by
  unfold State.classifySyncLoss
  (repeat' split) <;> simp

@[simp] theorem State.joinFrequency_frame (s : State) :
    (s.joinFrequency).pending = s.pending ∧
      (s.joinFrequency).time = s.time ∧
      (s.joinFrequency).station = s.station ∧
      (s.joinFrequency).tracker = s.tracker ∧
      (s.joinFrequency).sampler = s.sampler ∧
      (s.joinFrequency).line = s.line ∧
      (s.joinFrequency).filter = s.filter ∧
      (s.joinFrequency).peers = s.peers ∧
      (s.joinFrequency).allocator = s.allocator ∧
      (s.joinFrequency).regulator = s.regulator ∧
      (s.joinFrequency).gates = s.gates ∧
      (s.joinFrequency).protection = s.protection ∧
      (s.joinFrequency).fault = s.fault ∧
      (s.joinFrequency).port = s.port := by
  unfold State.joinFrequency
  (try dsimp only)
  (repeat' split) <;> simp

@[simp] theorem State.actOnBand_frame (s : State) (cfg : Configuration) :
    (s.actOnBand cfg).pending = s.pending ∧
      (s.actOnBand cfg).time = s.time ∧
      (s.actOnBand cfg).tracker = s.tracker ∧
      (s.actOnBand cfg).sampler = s.sampler ∧
      (s.actOnBand cfg).filter = s.filter ∧
      (s.actOnBand cfg).peers = s.peers ∧
      (s.actOnBand cfg).protection = s.protection ∧
      (s.actOnBand cfg).fault = s.fault ∧
      (s.actOnBand cfg).port = s.port := by
  unfold State.actOnBand
  (repeat' split) <;> simp

@[simp] theorem State.classifyFrequency_frame (s : State) (cfg : Configuration) (f : Nat) :
    (s.classifyFrequency cfg f).pending = s.pending ∧
      (s.classifyFrequency cfg f).time = s.time ∧
      (s.classifyFrequency cfg f).tracker = s.tracker ∧
      (s.classifyFrequency cfg f).sampler = s.sampler ∧
      (s.classifyFrequency cfg f).filter = s.filter ∧
      (s.classifyFrequency cfg f).peers = s.peers ∧
      (s.classifyFrequency cfg f).protection = s.protection ∧
      (s.classifyFrequency cfg f).fault = s.fault ∧
      (s.classifyFrequency cfg f).port = s.port := by
  unfold State.classifyFrequency
  (repeat' split) <;> simp

@[simp] theorem State.recovered_frame (s : State) (cfg : Configuration) :
    (s.recovered cfg).pending = s.pending ∧
      (s.recovered cfg).time = s.time ∧
      (s.recovered cfg).tracker = s.tracker ∧
      (s.recovered cfg).sampler = s.sampler ∧
      (s.recovered cfg).filter = s.filter ∧
      (s.recovered cfg).peers = s.peers ∧
      (s.recovered cfg).protection = s.protection ∧
      (s.recovered cfg).fault = s.fault ∧
      (s.recovered cfg).port = s.port := by
  unfold State.recovered
  (try dsimp only)
  simp

/-! ### Track -/

@[simp] theorem State.lock_frame (s : State) (cfg : Configuration) (intervals : List Nat) :
    (s.lock cfg intervals).pending = s.pending ∧
      (s.lock cfg intervals).time = s.time ∧
      (s.lock cfg intervals).station = s.station ∧
      (s.lock cfg intervals).classifier = s.classifier ∧
      (s.lock cfg intervals).line = s.line ∧
      (s.lock cfg intervals).filter = s.filter ∧
      (s.lock cfg intervals).peers = s.peers ∧
      (s.lock cfg intervals).allocator = s.allocator ∧
      (s.lock cfg intervals).regulator = s.regulator ∧
      (s.lock cfg intervals).gates = s.gates ∧
      (s.lock cfg intervals).protection = s.protection ∧
      (s.lock cfg intervals).events = s.events ∧
      (s.lock cfg intervals).fault = s.fault ∧
      (s.lock cfg intervals).port = s.port := by
  unfold State.lock
  (try dsimp only)
  simp

@[simp] theorem State.extendRun_frame (s : State) (cfg : Configuration) (interval : Nat) :
    (s.extendRun cfg interval).pending = s.pending ∧
      (s.extendRun cfg interval).time = s.time ∧
      (s.extendRun cfg interval).station = s.station ∧
      (s.extendRun cfg interval).classifier = s.classifier ∧
      (s.extendRun cfg interval).line = s.line ∧
      (s.extendRun cfg interval).filter = s.filter ∧
      (s.extendRun cfg interval).peers = s.peers ∧
      (s.extendRun cfg interval).allocator = s.allocator ∧
      (s.extendRun cfg interval).regulator = s.regulator ∧
      (s.extendRun cfg interval).gates = s.gates ∧
      (s.extendRun cfg interval).protection = s.protection ∧
      (s.extendRun cfg interval).events = s.events ∧
      (s.extendRun cfg interval).fault = s.fault ∧
      (s.extendRun cfg interval).port = s.port := by
  unfold State.extendRun
  (try dsimp only)
  (repeat' split) <;> simp

@[simp] theorem State.beginRun_frame (s : State) :
    (s.beginRun).pending = s.pending ∧
      (s.beginRun).time = s.time ∧
      (s.beginRun).station = s.station ∧
      (s.beginRun).sampler = s.sampler ∧
      (s.beginRun).classifier = s.classifier ∧
      (s.beginRun).line = s.line ∧
      (s.beginRun).filter = s.filter ∧
      (s.beginRun).peers = s.peers ∧
      (s.beginRun).allocator = s.allocator ∧
      (s.beginRun).regulator = s.regulator ∧
      (s.beginRun).gates = s.gates ∧
      (s.beginRun).protection = s.protection ∧
      (s.beginRun).events = s.events ∧
      (s.beginRun).fault = s.fault ∧
      (s.beginRun).port = s.port := by
  unfold State.beginRun
  (try dsimp only)
  simp

@[simp] theorem State.acquire_frame (s : State) (cfg : Configuration) (interval : Nat) :
    (s.acquire cfg interval).pending = s.pending ∧
      (s.acquire cfg interval).time = s.time ∧
      (s.acquire cfg interval).station = s.station ∧
      (s.acquire cfg interval).classifier = s.classifier ∧
      (s.acquire cfg interval).line = s.line ∧
      (s.acquire cfg interval).filter = s.filter ∧
      (s.acquire cfg interval).peers = s.peers ∧
      (s.acquire cfg interval).allocator = s.allocator ∧
      (s.acquire cfg interval).regulator = s.regulator ∧
      (s.acquire cfg interval).gates = s.gates ∧
      (s.acquire cfg interval).protection = s.protection ∧
      (s.acquire cfg interval).events = s.events ∧
      (s.acquire cfg interval).fault = s.fault ∧
      (s.acquire cfg interval).port = s.port := by
  unfold State.acquire
  (repeat' split) <;> simp

@[simp] theorem State.reportBand_frame (s : State) (cfg : Configuration) (error : Int) :
    (s.reportBand cfg error).pending = s.pending ∧
      (s.reportBand cfg error).time = s.time ∧
      (s.reportBand cfg error).tracker = s.tracker ∧
      (s.reportBand cfg error).sampler = s.sampler ∧
      (s.reportBand cfg error).filter = s.filter ∧
      (s.reportBand cfg error).peers = s.peers ∧
      (s.reportBand cfg error).protection = s.protection ∧
      (s.reportBand cfg error).fault = s.fault ∧
      (s.reportBand cfg error).port = s.port := by
  unfold State.reportBand
  (repeat' split) <;> simp

@[simp] theorem State.follow_frame (s : State) (cfg : Configuration) (interval : Nat) :
    (s.follow cfg interval).pending = s.pending ∧
      (s.follow cfg interval).time = s.time ∧
      (s.follow cfg interval).sampler = s.sampler ∧
      (s.follow cfg interval).filter = s.filter ∧
      (s.follow cfg interval).peers = s.peers ∧
      (s.follow cfg interval).protection = s.protection ∧
      (s.follow cfg interval).fault = s.fault ∧
      (s.follow cfg interval).port = s.port := by
  unfold State.follow
  simp

@[simp] theorem State.plausibleCapture_frame (s : State) (cfg : Configuration) (interval : Nat) :
    (s.plausibleCapture cfg interval).pending = s.pending ∧
      (s.plausibleCapture cfg interval).time = s.time ∧
      (s.plausibleCapture cfg interval).filter = s.filter ∧
      (s.plausibleCapture cfg interval).peers = s.peers ∧
      (s.plausibleCapture cfg interval).protection = s.protection ∧
      (s.plausibleCapture cfg interval).fault = s.fault ∧
      (s.plausibleCapture cfg interval).port = s.port := by
  unfold State.plausibleCapture
  (repeat' split) <;> simp

@[simp] theorem State.judgeCapture_frame (s : State) (cfg : Configuration) :
    (s.judgeCapture cfg).pending = s.pending ∧
      (s.judgeCapture cfg).time = s.time ∧
      (s.judgeCapture cfg).filter = s.filter ∧
      (s.judgeCapture cfg).peers = s.peers ∧
      (s.judgeCapture cfg).protection = s.protection ∧
      (s.judgeCapture cfg).fault = s.fault ∧
      (s.judgeCapture cfg).port = s.port := by
  unfold State.judgeCapture
  (try dsimp only)
  (repeat' split) <;> simp

@[simp] theorem State.capture_frame (s : State) (cfg : Configuration) :
    (s.capture cfg).pending = s.pending ∧
      (s.capture cfg).time = s.time ∧
      (s.capture cfg).filter = s.filter ∧
      (s.capture cfg).peers = s.peers ∧
      (s.capture cfg).protection = s.protection ∧
      (s.capture cfg).fault = s.fault ∧
      (s.capture cfg).port = s.port := by
  unfold State.capture
  simp

@[simp] theorem State.loseSync_frame (s : State) (cfg : Configuration) :
    (s.loseSync cfg).pending = s.pending ∧
      (s.loseSync cfg).time = s.time ∧
      (s.loseSync cfg).filter = s.filter ∧
      (s.loseSync cfg).peers = s.peers ∧
      (s.loseSync cfg).protection = s.protection ∧
      (s.loseSync cfg).fault = s.fault ∧
      (s.loseSync cfg).port = s.port := by
  unfold State.loseSync
  simp

/-! ### Sampling -/

@[simp] theorem State.formFigureSet_frame (s : State) (cfg : Configuration) :
    (s.formFigureSet cfg).pending = s.pending ∧
      (s.formFigureSet cfg).time = s.time ∧
      (s.formFigureSet cfg).station = s.station ∧
      (s.formFigureSet cfg).tracker = s.tracker ∧
      (s.formFigureSet cfg).classifier = s.classifier ∧
      (s.formFigureSet cfg).line = s.line ∧
      (s.formFigureSet cfg).filter = s.filter ∧
      (s.formFigureSet cfg).peers = s.peers ∧
      (s.formFigureSet cfg).regulator = s.regulator ∧
      (s.formFigureSet cfg).gates = s.gates ∧
      (s.formFigureSet cfg).protection = s.protection ∧
      (s.formFigureSet cfg).events = s.events ∧
      (s.formFigureSet cfg).fault = s.fault ∧
      (s.formFigureSet cfg).port = s.port := by
  unfold State.formFigureSet
  (try dsimp only)
  simp

@[simp] theorem Delivery.noteRelease_state (d : Delivery) (x : StationState) : (d.noteRelease x).state = d.state := by
  unfold Delivery.noteRelease
  split <;> rfl

/-- What one neighbour does with a figure set leaves these components of the part alone. -/
theorem Delivery.act_frame (cfg : Configuration) (r : FigureReport) (d : Delivery) (n : Neighbour) :
    (d.act cfg r n).state.pending = d.state.pending ∧
      (d.act cfg r n).state.time = d.state.time ∧
      (d.act cfg r n).state.tracker = d.state.tracker ∧
      (d.act cfg r n).state.sampler = d.state.sampler ∧
      (d.act cfg r n).state.filter = d.state.filter ∧
      (d.act cfg r n).state.peers = d.state.peers ∧
      (d.act cfg r n).state.protection = d.state.protection ∧
      (d.act cfg r n).state.port = d.state.port := by
  cases n <;> unfold Delivery.act <;> (try unfold Delivery.regulate) <;> (try unfold Delivery.generate) <;>
    (repeat' split) <;> simp

theorem Delivery.pass_frame (cfg : Configuration) (r : FigureReport) (d : Delivery) (n : Neighbour) :
    (d.pass cfg r n).state.pending = d.state.pending ∧
      (d.pass cfg r n).state.time = d.state.time ∧
      (d.pass cfg r n).state.tracker = d.state.tracker ∧
      (d.pass cfg r n).state.sampler = d.state.sampler ∧
      (d.pass cfg r n).state.filter = d.state.filter ∧
      (d.pass cfg r n).state.peers = d.state.peers ∧
      (d.pass cfg r n).state.protection = d.state.protection ∧
      (d.pass cfg r n).state.port = d.state.port := by
  unfold Delivery.pass
  simpa using Delivery.act_frame cfg r d n

theorem Delivery.passAll_frame (cfg : Configuration) (r : FigureReport) (order : List Neighbour) (d : Delivery) :
    (order.foldl (Delivery.pass cfg r) d).state.pending = d.state.pending ∧
      (order.foldl (Delivery.pass cfg r) d).state.time = d.state.time ∧
      (order.foldl (Delivery.pass cfg r) d).state.tracker = d.state.tracker ∧
      (order.foldl (Delivery.pass cfg r) d).state.sampler = d.state.sampler ∧
      (order.foldl (Delivery.pass cfg r) d).state.filter = d.state.filter ∧
      (order.foldl (Delivery.pass cfg r) d).state.peers = d.state.peers ∧
      (order.foldl (Delivery.pass cfg r) d).state.protection = d.state.protection ∧
      (order.foldl (Delivery.pass cfg r) d).state.port = d.state.port := by
  induction order generalizing d with
  | nil => simp
  | cons n rest ih => simpa [Delivery.pass_frame] using ih (d.pass cfg r n)

@[simp] theorem State.deliver_frame (s : State) (cfg : Configuration) (r : FigureReport) (order : List Neighbour) :
    (s.deliver cfg r order).pending = s.pending ∧
      (s.deliver cfg r order).time = s.time ∧
      (s.deliver cfg r order).tracker = s.tracker ∧
      (s.deliver cfg r order).sampler = s.sampler ∧
      (s.deliver cfg r order).filter = s.filter ∧
      (s.deliver cfg r order).peers = s.peers ∧
      (s.deliver cfg r order).protection = s.protection ∧
      (s.deliver cfg r order).port = s.port := by
  simp [State.deliver, Delivery.passAll_frame]

@[simp] theorem State.takeBoundary_frame (s : State) (cfg : Configuration) (boundary : Option Boundary) (start : Micros) (base : Nat) (plant : PlantInputs) (order : List Neighbour) :
    (s.takeBoundary cfg boundary start base plant order).pending = s.pending ∧
      (s.takeBoundary cfg boundary start base plant order).time = s.time ∧
      (s.takeBoundary cfg boundary start base plant order).tracker = s.tracker ∧
      (s.takeBoundary cfg boundary start base plant order).filter = s.filter ∧
      (s.takeBoundary cfg boundary start base plant order).peers = s.peers ∧
      (s.takeBoundary cfg boundary start base plant order).protection = s.protection ∧
      (s.takeBoundary cfg boundary start base plant order).port = s.port := by
  unfold State.takeBoundary
  (try dsimp only)
  simp

@[simp] theorem State.issueBoundary_frame (s : State) (cfg : Configuration) (plant : PlantInputs) (order : List Neighbour) :
    (s.issueBoundary cfg plant order).pending = s.pending ∧
      (s.issueBoundary cfg plant order).time = s.time ∧
      (s.issueBoundary cfg plant order).filter = s.filter ∧
      (s.issueBoundary cfg plant order).peers = s.peers ∧
      (s.issueBoundary cfg plant order).protection = s.protection ∧
      (s.issueBoundary cfg plant order).port = s.port := by
  unfold State.issueBoundary
  (repeat' split) <;> simp

@[simp] theorem State.freeBoundary_frame (s : State) (cfg : Configuration) (plant : PlantInputs) (order : List Neighbour) :
    (s.freeBoundary cfg plant order).pending = s.pending ∧
      (s.freeBoundary cfg plant order).time = s.time ∧
      (s.freeBoundary cfg plant order).tracker = s.tracker ∧
      (s.freeBoundary cfg plant order).filter = s.filter ∧
      (s.freeBoundary cfg plant order).peers = s.peers ∧
      (s.freeBoundary cfg plant order).protection = s.protection ∧
      (s.freeBoundary cfg plant order).port = s.port := by
  unfold State.freeBoundary
  (try dsimp only)
  (repeat' split) <;> simp

/-! ### Allocate -/

@[simp] theorem State.countIf_frame (s : State) (came : Bool) (k : EventKind) :
    (s.countIf came k).pending = s.pending ∧
      (s.countIf came k).time = s.time ∧
      (s.countIf came k).station = s.station ∧
      (s.countIf came k).tracker = s.tracker ∧
      (s.countIf came k).sampler = s.sampler ∧
      (s.countIf came k).classifier = s.classifier ∧
      (s.countIf came k).line = s.line ∧
      (s.countIf came k).filter = s.filter ∧
      (s.countIf came k).peers = s.peers ∧
      (s.countIf came k).allocator = s.allocator ∧
      (s.countIf came k).regulator = s.regulator ∧
      (s.countIf came k).gates = s.gates ∧
      (s.countIf came k).protection = s.protection ∧
      (s.countIf came k).fault = s.fault ∧
      (s.countIf came k).port = s.port := by
  unfold State.countIf
  (repeat' split) <;> simp

@[simp] theorem State.placeShare_frame (s : State) (body : ShareBody) :
    (s.placeShare body).pending = s.pending ∧
      (s.placeShare body).time = s.time ∧
      (s.placeShare body).station = s.station ∧
      (s.placeShare body).tracker = s.tracker ∧
      (s.placeShare body).sampler = s.sampler ∧
      (s.placeShare body).classifier = s.classifier ∧
      (s.placeShare body).filter = s.filter ∧
      (s.placeShare body).peers = s.peers ∧
      (s.placeShare body).allocator = s.allocator ∧
      (s.placeShare body).regulator = s.regulator ∧
      (s.placeShare body).gates = s.gates ∧
      (s.placeShare body).protection = s.protection ∧
      (s.placeShare body).fault = s.fault ∧
      (s.placeShare body).port = s.port := by
  unfold State.placeShare
  (try dsimp only)
  simp

@[simp] theorem State.allocate_frame (s : State) (cfg : Configuration) :
    (s.allocate cfg).pending = s.pending ∧
      (s.allocate cfg).time = s.time ∧
      (s.allocate cfg).station = s.station ∧
      (s.allocate cfg).tracker = s.tracker ∧
      (s.allocate cfg).sampler = s.sampler ∧
      (s.allocate cfg).classifier = s.classifier ∧
      (s.allocate cfg).filter = s.filter ∧
      (s.allocate cfg).peers = s.peers ∧
      (s.allocate cfg).regulator = s.regulator ∧
      (s.allocate cfg).gates = s.gates ∧
      (s.allocate cfg).protection = s.protection ∧
      (s.allocate cfg).fault = s.fault ∧
      (s.allocate cfg).port = s.port := by
  unfold State.allocate
  (try dsimp only)
  simp

@[simp] theorem State.runShareUpdate_frame (s : State) (cfg : Configuration) :
    (s.runShareUpdate cfg).pending = s.pending ∧
      (s.runShareUpdate cfg).time = s.time ∧
      (s.runShareUpdate cfg).tracker = s.tracker ∧
      (s.runShareUpdate cfg).sampler = s.sampler ∧
      (s.runShareUpdate cfg).classifier = s.classifier ∧
      (s.runShareUpdate cfg).filter = s.filter ∧
      (s.runShareUpdate cfg).peers = s.peers ∧
      (s.runShareUpdate cfg).protection = s.protection ∧
      (s.runShareUpdate cfg).fault = s.fault ∧
      (s.runShareUpdate cfg).port = s.port := by
  unfold State.runShareUpdate
  simp

@[simp] theorem State.restartShareTimer_frame (s : State) (cfg : Configuration) (from_ : Micros) :
    (s.restartShareTimer cfg from_).pending = s.pending ∧
      (s.restartShareTimer cfg from_).time = s.time ∧
      (s.restartShareTimer cfg from_).station = s.station ∧
      (s.restartShareTimer cfg from_).tracker = s.tracker ∧
      (s.restartShareTimer cfg from_).sampler = s.sampler ∧
      (s.restartShareTimer cfg from_).classifier = s.classifier ∧
      (s.restartShareTimer cfg from_).line = s.line ∧
      (s.restartShareTimer cfg from_).filter = s.filter ∧
      (s.restartShareTimer cfg from_).peers = s.peers ∧
      (s.restartShareTimer cfg from_).regulator = s.regulator ∧
      (s.restartShareTimer cfg from_).gates = s.gates ∧
      (s.restartShareTimer cfg from_).protection = s.protection ∧
      (s.restartShareTimer cfg from_).events = s.events ∧
      (s.restartShareTimer cfg from_).fault = s.fault ∧
      (s.restartShareTimer cfg from_).port = s.port := by
  unfold State.restartShareTimer
  (try dsimp only)
  simp

@[simp] theorem State.shareExpiry_frame (s : State) (cfg : Configuration) :
    (s.shareExpiry cfg).pending = s.pending ∧
      (s.shareExpiry cfg).time = s.time ∧
      (s.shareExpiry cfg).tracker = s.tracker ∧
      (s.shareExpiry cfg).sampler = s.sampler ∧
      (s.shareExpiry cfg).classifier = s.classifier ∧
      (s.shareExpiry cfg).filter = s.filter ∧
      (s.shareExpiry cfg).peers = s.peers ∧
      (s.shareExpiry cfg).protection = s.protection ∧
      (s.shareExpiry cfg).fault = s.fault ∧
      (s.shareExpiry cfg).port = s.port := by
  unfold State.shareExpiry
  (try dsimp only)
  (repeat' split) <;> simp

@[simp] theorem State.earlyUpdate_frame (s : State) (cfg : Configuration) :
    (s.earlyUpdate cfg).pending = s.pending ∧
      (s.earlyUpdate cfg).time = s.time ∧
      (s.earlyUpdate cfg).tracker = s.tracker ∧
      (s.earlyUpdate cfg).sampler = s.sampler ∧
      (s.earlyUpdate cfg).classifier = s.classifier ∧
      (s.earlyUpdate cfg).filter = s.filter ∧
      (s.earlyUpdate cfg).peers = s.peers ∧
      (s.earlyUpdate cfg).protection = s.protection ∧
      (s.earlyUpdate cfg).fault = s.fault ∧
      (s.earlyUpdate cfg).port = s.port := by
  unfold State.earlyUpdate
  (repeat' split) <;> simp

/-! ### Peers -/

@[simp] theorem State.acceptNew_frame (s : State) (f : Frame) :
    (s.acceptNew f).pending = s.pending ∧
      (s.acceptNew f).time = s.time ∧
      (s.acceptNew f).station = s.station ∧
      (s.acceptNew f).tracker = s.tracker ∧
      (s.acceptNew f).sampler = s.sampler ∧
      (s.acceptNew f).classifier = s.classifier ∧
      (s.acceptNew f).line = s.line ∧
      (s.acceptNew f).filter = s.filter ∧
      (s.acceptNew f).allocator = s.allocator ∧
      (s.acceptNew f).regulator = s.regulator ∧
      (s.acceptNew f).gates = s.gates ∧
      (s.acceptNew f).protection = s.protection ∧
      (s.acceptNew f).fault = s.fault ∧
      (s.acceptNew f).port = s.port := by
  unfold State.acceptNew
  (repeat' split) <;> simp

@[simp] theorem State.acceptLeave_frame (s : State) (n : Nat) :
    (s.acceptLeave n).pending = s.pending ∧
      (s.acceptLeave n).time = s.time ∧
      (s.acceptLeave n).station = s.station ∧
      (s.acceptLeave n).tracker = s.tracker ∧
      (s.acceptLeave n).sampler = s.sampler ∧
      (s.acceptLeave n).classifier = s.classifier ∧
      (s.acceptLeave n).line = s.line ∧
      (s.acceptLeave n).filter = s.filter ∧
      (s.acceptLeave n).allocator = s.allocator ∧
      (s.acceptLeave n).regulator = s.regulator ∧
      (s.acceptLeave n).gates = s.gates ∧
      (s.acceptLeave n).protection = s.protection ∧
      (s.acceptLeave n).fault = s.fault ∧
      (s.acceptLeave n).port = s.port := by
  unfold State.acceptLeave
  simp

@[simp] theorem State.acceptFields_frame (s : State) (f : Frame) (missed : Nat → Nat) :
    (s.acceptFields f missed).pending = s.pending ∧
      (s.acceptFields f missed).time = s.time ∧
      (s.acceptFields f missed).station = s.station ∧
      (s.acceptFields f missed).tracker = s.tracker ∧
      (s.acceptFields f missed).sampler = s.sampler ∧
      (s.acceptFields f missed).classifier = s.classifier ∧
      (s.acceptFields f missed).line = s.line ∧
      (s.acceptFields f missed).filter = s.filter ∧
      (s.acceptFields f missed).allocator = s.allocator ∧
      (s.acceptFields f missed).regulator = s.regulator ∧
      (s.acceptFields f missed).gates = s.gates ∧
      (s.acceptFields f missed).protection = s.protection ∧
      (s.acceptFields f missed).events = s.events ∧
      (s.acceptFields f missed).fault = s.fault ∧
      (s.acceptFields f missed).port = s.port := by
  unfold State.acceptFields
  (try dsimp only)
  simp

@[simp] theorem State.acceptFlagged_frame (s : State) (f : Frame) :
    (s.acceptFlagged f).pending = s.pending ∧
      (s.acceptFlagged f).time = s.time ∧
      (s.acceptFlagged f).station = s.station ∧
      (s.acceptFlagged f).tracker = s.tracker ∧
      (s.acceptFlagged f).sampler = s.sampler ∧
      (s.acceptFlagged f).classifier = s.classifier ∧
      (s.acceptFlagged f).line = s.line ∧
      (s.acceptFlagged f).filter = s.filter ∧
      (s.acceptFlagged f).allocator = s.allocator ∧
      (s.acceptFlagged f).regulator = s.regulator ∧
      (s.acceptFlagged f).gates = s.gates ∧
      (s.acceptFlagged f).protection = s.protection ∧
      (s.acceptFlagged f).fault = s.fault ∧
      (s.acceptFlagged f).port = s.port := by
  unfold State.acceptFlagged
  (repeat' split) <;> simp

@[simp] theorem State.acceptUnflagged_frame (s : State) (f : Frame) (d : Nat) :
    (s.acceptUnflagged f d).pending = s.pending ∧
      (s.acceptUnflagged f d).time = s.time ∧
      (s.acceptUnflagged f d).station = s.station ∧
      (s.acceptUnflagged f d).tracker = s.tracker ∧
      (s.acceptUnflagged f d).sampler = s.sampler ∧
      (s.acceptUnflagged f d).classifier = s.classifier ∧
      (s.acceptUnflagged f d).line = s.line ∧
      (s.acceptUnflagged f d).filter = s.filter ∧
      (s.acceptUnflagged f d).allocator = s.allocator ∧
      (s.acceptUnflagged f d).regulator = s.regulator ∧
      (s.acceptUnflagged f d).gates = s.gates ∧
      (s.acceptUnflagged f d).protection = s.protection ∧
      (s.acceptUnflagged f d).fault = s.fault ∧
      (s.acceptUnflagged f d).port = s.port := by
  unfold State.acceptUnflagged
  (repeat' split) <;> simp

@[simp] theorem State.acceptFrame_frame (s : State) (f : Frame) :
    (s.acceptFrame f).pending = s.pending ∧
      (s.acceptFrame f).time = s.time ∧
      (s.acceptFrame f).station = s.station ∧
      (s.acceptFrame f).tracker = s.tracker ∧
      (s.acceptFrame f).sampler = s.sampler ∧
      (s.acceptFrame f).classifier = s.classifier ∧
      (s.acceptFrame f).line = s.line ∧
      (s.acceptFrame f).filter = s.filter ∧
      (s.acceptFrame f).allocator = s.allocator ∧
      (s.acceptFrame f).regulator = s.regulator ∧
      (s.acceptFrame f).gates = s.gates ∧
      (s.acceptFrame f).protection = s.protection ∧
      (s.acceptFrame f).fault = s.fault ∧
      (s.acceptFrame f).port = s.port := by
  unfold State.acceptFrame
  (repeat' split) <;> simp

@[simp] theorem State.handOver_frame (s : State) (cfg : Configuration) (f : Frame) :
    (s.handOver cfg f).pending = s.pending ∧
      (s.handOver cfg f).time = s.time ∧
      (s.handOver cfg f).tracker = s.tracker ∧
      (s.handOver cfg f).sampler = s.sampler ∧
      (s.handOver cfg f).classifier = s.classifier ∧
      (s.handOver cfg f).protection = s.protection ∧
      (s.handOver cfg f).fault = s.fault ∧
      (s.handOver cfg f).port = s.port := by
  unfold State.handOver
  (try dsimp only)
  (repeat' split) <;> simp

@[simp] theorem State.discardFrame_frame (s : State) :
    (s.discardFrame).pending = s.pending ∧
      (s.discardFrame).time = s.time ∧
      (s.discardFrame).station = s.station ∧
      (s.discardFrame).tracker = s.tracker ∧
      (s.discardFrame).sampler = s.sampler ∧
      (s.discardFrame).classifier = s.classifier ∧
      (s.discardFrame).line = s.line ∧
      (s.discardFrame).peers = s.peers ∧
      (s.discardFrame).allocator = s.allocator ∧
      (s.discardFrame).regulator = s.regulator ∧
      (s.discardFrame).gates = s.gates ∧
      (s.discardFrame).protection = s.protection ∧
      (s.discardFrame).fault = s.fault ∧
      (s.discardFrame).port = s.port := by
  unfold State.discardFrame
  (try dsimp only)
  simp

@[simp] theorem State.passFrame_frame (s : State) (cfg : Configuration) (f : Frame) :
    (s.passFrame cfg f).pending = s.pending ∧
      (s.passFrame cfg f).time = s.time ∧
      (s.passFrame cfg f).tracker = s.tracker ∧
      (s.passFrame cfg f).sampler = s.sampler ∧
      (s.passFrame cfg f).classifier = s.classifier ∧
      (s.passFrame cfg f).protection = s.protection ∧
      (s.passFrame cfg f).port = s.port := by
  unfold State.passFrame
  (try dsimp only)
  (repeat' split) <;> simp

@[simp] theorem State.filterFrame_frame (s : State) (cfg : Configuration) (bytes : List Byte) (malformed : Bool) :
    (s.filterFrame cfg bytes malformed).pending = s.pending ∧
      (s.filterFrame cfg bytes malformed).time = s.time ∧
      (s.filterFrame cfg bytes malformed).tracker = s.tracker ∧
      (s.filterFrame cfg bytes malformed).sampler = s.sampler ∧
      (s.filterFrame cfg bytes malformed).classifier = s.classifier ∧
      (s.filterFrame cfg bytes malformed).protection = s.protection ∧
      (s.filterFrame cfg bytes malformed).port = s.port := by
  unfold State.filterFrame
  generalize (if malformed then none else frameOf bytes) = g
  cases g <;> simp

@[simp] theorem State.agePeer_frame (s : State) (n : Nat) (status : PeerStatus) (k : EventKind) :
    (s.agePeer n status k).pending = s.pending ∧
      (s.agePeer n status k).time = s.time ∧
      (s.agePeer n status k).station = s.station ∧
      (s.agePeer n status k).tracker = s.tracker ∧
      (s.agePeer n status k).sampler = s.sampler ∧
      (s.agePeer n status k).classifier = s.classifier ∧
      (s.agePeer n status k).line = s.line ∧
      (s.agePeer n status k).filter = s.filter ∧
      (s.agePeer n status k).allocator = s.allocator ∧
      (s.agePeer n status k).regulator = s.regulator ∧
      (s.agePeer n status k).gates = s.gates ∧
      (s.agePeer n status k).protection = s.protection ∧
      (s.agePeer n status k).fault = s.fault ∧
      (s.agePeer n status k).port = s.port := by
  unfold State.agePeer
  simp

@[simp] theorem State.takeForgetPeer_frame (s : State) (cfg : Configuration) (n : Nat) :
    (s.takeForgetPeer cfg n).pending = s.pending ∧
      (s.takeForgetPeer cfg n).time = s.time ∧
      (s.takeForgetPeer cfg n).station = s.station ∧
      (s.takeForgetPeer cfg n).tracker = s.tracker ∧
      (s.takeForgetPeer cfg n).sampler = s.sampler ∧
      (s.takeForgetPeer cfg n).classifier = s.classifier ∧
      (s.takeForgetPeer cfg n).line = s.line ∧
      (s.takeForgetPeer cfg n).filter = s.filter ∧
      (s.takeForgetPeer cfg n).allocator = s.allocator ∧
      (s.takeForgetPeer cfg n).regulator = s.regulator ∧
      (s.takeForgetPeer cfg n).gates = s.gates ∧
      (s.takeForgetPeer cfg n).protection = s.protection ∧
      (s.takeForgetPeer cfg n).fault = s.fault := by
  unfold State.takeForgetPeer
  (repeat' split) <;> simp

/-! ### Line -/

@[simp] theorem State.receiveCharacter_frame (s : State) (cfg : Configuration) (c : Character) :
    (s.receiveCharacter cfg c).pending = s.pending ∧
      (s.receiveCharacter cfg c).time = s.time ∧
      (s.receiveCharacter cfg c).tracker = s.tracker ∧
      (s.receiveCharacter cfg c).sampler = s.sampler ∧
      (s.receiveCharacter cfg c).classifier = s.classifier ∧
      (s.receiveCharacter cfg c).protection = s.protection ∧
      (s.receiveCharacter cfg c).port = s.port := by
  unfold State.receiveCharacter
  (try dsimp only)
  (repeat' split) <;> simp

@[simp] theorem State.receiveCharacters_frame (s : State) (cfg : Configuration) (cs : List Character) :
    (s.receiveCharacters cfg cs).pending = s.pending ∧
      (s.receiveCharacters cfg cs).time = s.time ∧
      (s.receiveCharacters cfg cs).tracker = s.tracker ∧
      (s.receiveCharacters cfg cs).sampler = s.sampler ∧
      (s.receiveCharacters cfg cs).classifier = s.classifier ∧
      (s.receiveCharacters cfg cs).protection = s.protection ∧
      (s.receiveCharacters cfg cs).port = s.port := by
  unfold State.receiveCharacters
  induction cs generalizing s with
  | nil => simp
  | cons c rest ih => simpa using ih (s.receiveCharacter cfg c)

@[simp] theorem State.abandonFrame_frame (s : State) (cfg : Configuration) (a : Assembly) :
    (s.abandonFrame cfg a).pending = s.pending ∧
      (s.abandonFrame cfg a).time = s.time ∧
      (s.abandonFrame cfg a).tracker = s.tracker ∧
      (s.abandonFrame cfg a).sampler = s.sampler ∧
      (s.abandonFrame cfg a).classifier = s.classifier ∧
      (s.abandonFrame cfg a).protection = s.protection ∧
      (s.abandonFrame cfg a).port = s.port := by
  unfold State.abandonFrame
  (try dsimp only)
  simp

@[simp] theorem State.collide_frame (s : State) (cfg : Configuration) (readback : List Character) :
    (s.collide cfg readback).pending = s.pending ∧
      (s.collide cfg readback).time = s.time ∧
      (s.collide cfg readback).tracker = s.tracker ∧
      (s.collide cfg readback).sampler = s.sampler ∧
      (s.collide cfg readback).classifier = s.classifier ∧
      (s.collide cfg readback).protection = s.protection ∧
      (s.collide cfg readback).port = s.port := by
  unfold State.collide
  (try dsimp only)
  (repeat' split) <;> simp

/-! ### Port -/

@[simp] theorem State.judgeComplete_frame (s : State) (kind : Nat) (parameters : List Byte) :
    (s.judgeComplete kind parameters).pending = s.pending ∧
      (s.judgeComplete kind parameters).time = s.time ∧
      (s.judgeComplete kind parameters).station = s.station ∧
      (s.judgeComplete kind parameters).tracker = s.tracker ∧
      (s.judgeComplete kind parameters).sampler = s.sampler ∧
      (s.judgeComplete kind parameters).classifier = s.classifier ∧
      (s.judgeComplete kind parameters).line = s.line ∧
      (s.judgeComplete kind parameters).filter = s.filter ∧
      (s.judgeComplete kind parameters).peers = s.peers ∧
      (s.judgeComplete kind parameters).allocator = s.allocator ∧
      (s.judgeComplete kind parameters).regulator = s.regulator ∧
      (s.judgeComplete kind parameters).gates = s.gates ∧
      (s.judgeComplete kind parameters).protection = s.protection ∧
      (s.judgeComplete kind parameters).events = s.events ∧
      (s.judgeComplete kind parameters).fault = s.fault := by
  unfold State.judgeComplete
  (try dsimp only)
  (repeat' split) <;> simp

@[simp] theorem State.judge_frame (s : State) (message : List Byte) :
    (s.judge message).pending = s.pending ∧
      (s.judge message).time = s.time ∧
      (s.judge message).station = s.station ∧
      (s.judge message).tracker = s.tracker ∧
      (s.judge message).sampler = s.sampler ∧
      (s.judge message).classifier = s.classifier ∧
      (s.judge message).line = s.line ∧
      (s.judge message).filter = s.filter ∧
      (s.judge message).peers = s.peers ∧
      (s.judge message).allocator = s.allocator ∧
      (s.judge message).regulator = s.regulator ∧
      (s.judge message).gates = s.gates ∧
      (s.judge message).protection = s.protection ∧
      (s.judge message).events = s.events ∧
      (s.judge message).fault = s.fault := by
  unfold State.judge
  (repeat' split) <;> simp

@[simp] theorem State.takeSetDemand_frame (s : State) (cfg : Configuration) (value : Nat) :
    (s.takeSetDemand cfg value).pending = s.pending ∧
      (s.takeSetDemand cfg value).time = s.time ∧
      (s.takeSetDemand cfg value).station = s.station ∧
      (s.takeSetDemand cfg value).tracker = s.tracker ∧
      (s.takeSetDemand cfg value).sampler = s.sampler ∧
      (s.takeSetDemand cfg value).classifier = s.classifier ∧
      (s.takeSetDemand cfg value).line = s.line ∧
      (s.takeSetDemand cfg value).filter = s.filter ∧
      (s.takeSetDemand cfg value).peers = s.peers ∧
      (s.takeSetDemand cfg value).regulator = s.regulator ∧
      (s.takeSetDemand cfg value).gates = s.gates ∧
      (s.takeSetDemand cfg value).protection = s.protection ∧
      (s.takeSetDemand cfg value).fault = s.fault := by
  unfold State.takeSetDemand
  (try dsimp only)
  simp

@[simp] theorem State.takeAckEvents_frame (s : State) (pairs : List (Nat × Nat)) :
    (s.takeAckEvents pairs).pending = s.pending ∧
      (s.takeAckEvents pairs).time = s.time ∧
      (s.takeAckEvents pairs).station = s.station ∧
      (s.takeAckEvents pairs).tracker = s.tracker ∧
      (s.takeAckEvents pairs).sampler = s.sampler ∧
      (s.takeAckEvents pairs).classifier = s.classifier ∧
      (s.takeAckEvents pairs).line = s.line ∧
      (s.takeAckEvents pairs).filter = s.filter ∧
      (s.takeAckEvents pairs).peers = s.peers ∧
      (s.takeAckEvents pairs).allocator = s.allocator ∧
      (s.takeAckEvents pairs).regulator = s.regulator ∧
      (s.takeAckEvents pairs).gates = s.gates ∧
      (s.takeAckEvents pairs).protection = s.protection ∧
      (s.takeAckEvents pairs).fault = s.fault := by
  unfold State.takeAckEvents
  (repeat' split) <;> simp

@[simp] theorem State.protectionAction_frame (s : State) (cfg : Configuration) (n : Fin 4) (a : ProtectionAction) :
    (s.protectionAction cfg n a).pending = s.pending ∧
      (s.protectionAction cfg n a).time = s.time ∧
      (s.protectionAction cfg n a).tracker = s.tracker ∧
      (s.protectionAction cfg n a).sampler = s.sampler ∧
      (s.protectionAction cfg n a).classifier = s.classifier ∧
      (s.protectionAction cfg n a).filter = s.filter ∧
      (s.protectionAction cfg n a).peers = s.peers ∧
      (s.protectionAction cfg n a).protection = s.protection ∧
      (s.protectionAction cfg n a).port = s.port := by
  unfold State.protectionAction
  (repeat' split) <;> simp

@[simp] theorem State.sampleInput_frame (s : State) (n : Fin 4) (level : Bool) :
    (s.sampleInput n level).pending = s.pending ∧
      (s.sampleInput n level).time = s.time ∧
      (s.sampleInput n level).station = s.station ∧
      (s.sampleInput n level).tracker = s.tracker ∧
      (s.sampleInput n level).sampler = s.sampler ∧
      (s.sampleInput n level).classifier = s.classifier ∧
      (s.sampleInput n level).line = s.line ∧
      (s.sampleInput n level).filter = s.filter ∧
      (s.sampleInput n level).peers = s.peers ∧
      (s.sampleInput n level).allocator = s.allocator ∧
      (s.sampleInput n level).regulator = s.regulator ∧
      (s.sampleInput n level).gates = s.gates ∧
      (s.sampleInput n level).events = s.events ∧
      (s.sampleInput n level).fault = s.fault ∧
      (s.sampleInput n level).port = s.port := by
  unfold State.sampleInput
  (try dsimp only)
  simp

@[simp] theorem State.resetStation_frame (s : State) (cfg : Configuration) :
    (s.resetStation cfg).pending = s.pending ∧
      (s.resetStation cfg).time = s.time ∧
      (s.resetStation cfg).tracker = s.tracker ∧
      (s.resetStation cfg).sampler = s.sampler ∧
      (s.resetStation cfg).classifier = s.classifier ∧
      (s.resetStation cfg).filter = s.filter ∧
      (s.resetStation cfg).peers = s.peers ∧
      (s.resetStation cfg).protection = s.protection ∧
      (s.resetStation cfg).events = s.events ∧
      (s.resetStation cfg).fault = s.fault ∧
      (s.resetStation cfg).port = s.port := by
  unfold State.resetStation
  (repeat' split) <;> simp

@[simp] theorem State.supervisorReset_frame (s : State) :
    (s.supervisorReset).pending = s.pending ∧
      (s.supervisorReset).time = s.time ∧
      (s.supervisorReset).tracker = s.tracker ∧
      (s.supervisorReset).sampler = s.sampler ∧
      (s.supervisorReset).classifier = s.classifier ∧
      (s.supervisorReset).peers = s.peers ∧
      (s.supervisorReset).protection = s.protection ∧
      (s.supervisorReset).fault = s.fault := by
  unfold State.supervisorReset State.configured
  dsimp only
  split <;> simp

end Sys2Proof.Machine
end

