-- ==== Sys2Proof/Laws/Operations.lean ====
section
/-! SUPPORT. What each shared operation does, once per operation, for later proofs to cite instead of unfolding
it. The frame of each operation stands in Sys2Proof/Laws/Frame.lean. -/

namespace Sys2Proof.Machine

/-! ### Arithmetic and ranges -/

theorem clampInt_bounds (x lo hi : Int) (h : lo ≤ hi) : lo ≤ clampInt x lo hi ∧ clampInt x lo hi ≤ hi := by
  unfold clampInt
  omega

theorem clampInt_of_mem (x lo hi : Int) (h : lo ≤ x) (h' : x ≤ hi) : clampInt x lo hi = x := by
  unfold clampInt
  omega

theorem within_iff (x lo hi : Nat) : within x lo hi = true ↔ lo ≤ x ∧ x ≤ hi := by simp [within]

theorem rampStep_pos (rate sharePeriod : Nat) : 1 ≤ rampStep rate sharePeriod := Nat.le_max_left _ _

/-- The bounds of a configuration that proofs need most: of the ratings, of the angles and of the envelope. -/
theorem configurationInRange_bounds (cfg : Configuration) (h : configurationInRange cfg = true) :
    cfg.station ≤ 15 ∧ cfg.group ≤ 3 ∧ cfg.rating ≤ 32000 ∧ cfg.currentFullScale ≤ 65000 ∧
    1000 ≤ cfg.peakCount ∧ (2 ≤ cfg.sharePeriod ∧ cfg.sharePeriod ≤ 20) ∧ cfg.coverLimit ≤ cfg.rating ∧
    cfg.voltFloor + 50 ≤ cfg.voltFull ∧ cfg.tDerate + 5 ≤ cfg.tMax ∧ cfg.alphaMin + 100 ≤ cfg.alphaMax ∧
    cfg.alphaMin ≤ cfg.alphaBias ∧ cfg.alphaBias ≤ cfg.alphaMax := by
  simp only [configurationInRange, within, Bool.and_eq_true, decide_eq_true_eq] at h
  omega

theorem nominalPeriod_eq (cfg : Configuration) : nominalPeriod cfg = 20000 ∨ nominalPeriod cfg = 16667 := by
  unfold nominalPeriod
  split <;> simp

/-- A plausible interval lies between 13,333 and 25,000 microseconds at either nominal frequency (R30). -/
theorem plausible_bounds (cfg : Configuration) (interval : Nat) (h : plausible cfg interval = true) :
    13333 ≤ interval ∧ interval ≤ 25000 := by
  rcases nominalPeriod_eq cfg with hp | hp <;> simp [plausible, hp] at h <;> omega

/-! ### Bytes -/

@[simp] theorem be16_length (n : Nat) : (be16 n).length = 2 := rfl
@[simp] theorem be32_length (n : Nat) : (be32 n).length = 4 := rfl
@[simp] theorem be16Signed_length (x : Int) : (be16Signed x).length = 2 := rfl

/-- Two bytes are read back as the field modulo 65,536. -/
theorem unsignedBE_be16 (n : Nat) : unsignedBE (be16 n) = n % 65536 := by
  simp [unsignedBE, be16]
  omega

/-- A character carries its byte with a good start bit and stop bit (R78). -/
theorem characterData_characterOf (b : Byte) : characterData (characterOf b) = b := by
  apply BitVec.eq_of_getLsbD_eq
  intro i hi
  simp only [characterData, characterOf, BitVec.getLsbD_extractLsb', BitVec.getLsbD_append]
  have h1 : ¬ 1 + i < 1 := by omega
  have h2 : 1 + i - 1 = i := by omega
  simp [h1, h2, hi]

theorem characterError_characterOf (b : Byte) : characterError (characterOf b) = false := by
  unfold characterError characterOf
  rw [BitVec.getLsbD_append, BitVec.getLsbD_append]
  simp

/-! ### Events (R174, R175) -/

@[simp] theorem driveLines_counters (e : EventUnit) : e.driveLines.counters = e.counters := rfl
@[simp] theorem driveLines_overflow (e : EventUnit) : e.driveLines.overflow = e.overflow := rfl
@[simp] theorem driveLines_urgent (e : EventUnit) : e.driveLines.urgent = e.urgent := rfl

/-- The lines are driven by the counters of their class (R175). -/
theorem driveLines_lines (e : EventUnit) :
    (e.driveLines.attnU = true ↔ ∃ i : Fin 24, e.urgent[i] = true ∧ 0 < e.counters[i]) ∧
    (e.driveLines.attnR = true ↔ ∃ i : Fin 24, e.urgent[i] = false ∧ 0 < e.counters[i]) := by
  simp [EventUnit.driveLines, EventUnit.classPending, EventUnit.isPending]

/-- Driving the lines makes a unit sound whose counters are. -/
theorem driveLines_sound (e : EventUnit) (h : ∀ i : Fin 24, e.counters[i] ≤ 255) : e.driveLines.Sound :=
  ⟨h, driveLines_lines e⟩

@[simp] theorem State.count_events (s : State) (k : EventKind) : (s.count k).events = s.events.count k := rfl

/-! ### Regulator and gates -/

theorem clampSideOf_alphaMin (cfg : Configuration) : clampSideOf cfg cfg.alphaMin = .low := by
  simp [clampSideOf]

theorem clampSideOf_alphaMax (cfg : Configuration) (h : cfg.alphaMin < cfg.alphaMax) :
    clampSideOf cfg cfg.alphaMax = .high := by
  simp [clampSideOf, Nat.ne_of_gt h]

/-- An output angle lies within its limits (R153, R156). -/
theorem angleOf_bounds (cfg : Configuration) (u : Int) (h : cfg.alphaMin ≤ cfg.alphaMax) :
    cfg.alphaMin ≤ angleOf cfg u ∧ angleOf cfg u ≤ cfg.alphaMax := by
  unfold angleOf
  have := clampInt_bounds (cfg.alphaBias - u) cfg.alphaMin cfg.alphaMax (by omega)
  omega

/-- An update keeps the integrator within its limit (R155). -/
theorem integrate_bounds (cfg : Configuration) (side : ClampSide) (integrator error : Int)
    (h : WithinLimit cfg integrator) : WithinLimit cfg (integrate cfg side integrator error) := by
  unfold integrate
  split
  · exact h
  · exact clampInt_bounds _ _ _ (by omega)

@[simp] theorem Gates.block_mode (g : Gates) : g.block.mode = .inhibited := rfl
@[simp] theorem Gates.block_firings (g : Gates) : g.block.firings = [] := rfl
@[simp] theorem Gates.block_latched (g : Gates) : g.block.latched = g.latched := rfl

/-- A blocked generator gives no pulse and holds no firing (R165). -/
theorem Gates.block_not_active (g : Gates) : ¬ g.block.Active := by
  simp [Gates.block, Gates.Active]

/-- Placing a firing adds exactly one entry. -/
@[simp] theorem insertFiring_length (f : PendingFiring) (l : List PendingFiring) :
    (insertFiring f l).length = l.length + 1 := by
  induction l with
  | nil => rfl
  | cons g rest ih =>
    unfold insertFiring
    split
    · simp [ih]
    · rfl

/-! ### Station Controller -/

@[simp] theorem State.enter_station (s : State) (cfg : Configuration) (dest : StationState) :
    (s.enter cfg dest).station = s.station.enter dest s.time := rfl
@[simp] theorem State.enter_allocator (s : State) (cfg : Configuration) (dest : StationState) :
    (s.enter cfg dest).allocator = s.allocator.enter s.station.state dest := rfl
@[simp] theorem State.enter_regulator (s : State) (cfg : Configuration) (dest : StationState) :
    (s.enter cfg dest).regulator = s.regulator.enter cfg s.station.stack dest := rfl
@[simp] theorem State.enter_gates (s : State) (cfg : Configuration) (dest : StationState) :
    (s.enter cfg dest).gates =
      s.gates.enter (s.regulator.enter cfg s.station.stack dest).lastAngle dest := rfl
@[simp] theorem State.enter_line (s : State) (cfg : Configuration) (dest : StationState) :
    (s.enter cfg dest).line = s.line.enter s.station.state dest s.time := rfl

@[simp] theorem Station.enter_state (st : Station) (dest : StationState) (now : Micros) :
    (st.enter dest now).state = dest := rfl
@[simp] theorem Station.enter_stack (st : Station) (dest : StationState) (now : Micros) :
    (st.enter dest now).stack = st.stack := rfl

/-- A state that holds no record has an empty stack (R13). -/
theorem Station.StackFits.stack_eq_nil {st : Station} (h : st.StackFits)
    (hs : st.state.holdsRecords = false) : st.stack = [] := by
  have := h.2
  rw [hs] at this
  simpa using this

/-- A queue with room takes the frame at its end (R83). -/
theorem State.queueFrame_of_room (s : State) (body : Body) (h : s.line.alertQueue.length < 4) :
    s.queueFrame body = s.setLine (s.line.join body s.time) := by
  simp [State.queueFrame, h]

/-- A full queue drops the frame with TX_DROPPED (R83). -/
theorem State.queueFrame_of_full (s : State) (body : Body) (h : 4 ≤ s.line.alertQueue.length) :
    s.queueFrame body = s.count .txDropped := by
  simp [State.queueFrame, Nat.not_lt.mpr h]

/-- Joining keeps the queue's bound and its high-water mark (R83, R85). -/
theorem ShareLine.join_sound (l : ShareLine) (body : Body) (now : Micros) (h : l.Sound)
    (hr : l.alertQueue.length < 4) : (l.join body now).Sound := by
  obtain ⟨h1, h2, h3, h4⟩ := h
  refine ⟨?_, ?_, ?_, h4⟩ <;> simp only [ShareLine.join, List.length_append, List.length_singleton] <;> omega

/-- A trip taken outside UNCONFIGURED and TRIPPED ends in TRIPPED with the stack emptied (R26). -/
theorem State.trip_station (s : State) (cfg : Configuration) (cause : TripCause)
    (hu : s.station.state ≠ .unconfigured) :
    (s.trip cfg cause).station.state = .tripped := by
  unfold State.trip
  split <;> simp_all [State.emptyStack, State.setStation, State.setFault]

/-- What the port holds once a response is formed (R188). -/
@[simp] theorem State.answer_port (s : State) (r : Response) :
    (s.answer r).port = { s.port with response := some r, request := none } := rfl

/-! ### Sampling Unit -/

/-- A converted line sample is a signed count of -2047 to 2047 (R47). -/
theorem lineCount_bounds (c : Conversion) : -2047 ≤ lineCount c ∧ lineCount c ≤ 2047 := by
  have := c.toInt_lt
  unfold lineCount
  omega

/-- A window keeps its length, and its entries their range, as it takes a sample (R47). -/
theorem slide_sound (w : List Int) (x : Int) (h : WindowSound w) (hx : -2047 ≤ x ∧ x ≤ 2047) :
    WindowSound (slide w x) := by
  obtain ⟨hl, hb⟩ := h
  refine ⟨by simp [slide, hl], ?_⟩
  intro y hy
  rcases List.mem_append.mp (List.mem_of_mem_drop hy) with hy | hy
  · exact hb y hy
  · simp only [List.mem_singleton] at hy
    exact hy ▸ hx

/-- C never exceeds the rating (R54, R55). -/
theorem formFigures_capability_le (m : Sampler) (cfg : Configuration) :
    (m.formFigures cfg).capability ≤ cfg.rating := Nat.min_le_left _ _

/-- A line figure is at most 1500 (R52). -/
theorem lineFigure_le (cfg : Configuration) (w : List Int) : lineFigure cfg w ≤ 1500 := Nat.min_le_left _ _

/-! ### Cover Allocator -/

/-- A moved setpoint never exceeds C (R142). -/
theorem rampedSetpoint_le (steps : Steps) (state : StationState) (dcLimit : Bool)
    (setpoint target capability : Nat) :
    rampedSetpoint steps state dcLimit setpoint target capability ≤ capability := Nat.min_le_right _ _

/-- Cover never exceeds the own headroom (R140). -/
theorem coverOf_le (state : StationState) (headroom shortfallSum headroomSum : Nat) :
    coverOf state headroom shortfallSum headroomSum ≤ headroom := by
  unfold coverOf
  split
  · split
    · exact Nat.zero_le _
    · split
      · exact Nat.le_refl _
      · have hlt : shortfallSum ≤ headroomSum := by omega
        exact Nat.div_le_of_le_mul (Nat.mul_le_mul_right _ hlt)
  · exact Nat.zero_le _

/-- Headroom never exceeds the limit L (R138). -/
theorem ownHeadroom_le (cfg : Configuration) (state : StationState) (demand capability : Nat) :
    ownHeadroom cfg state demand capability ≤ cfg.coverLimit := by
  unfold ownHeadroom
  split <;> omega

/-! ### Peer Table -/

/-- Placing an entry keeps the rest and adds it. -/
theorem mem_insertPeer (p q : Peer) (l : List Peer) : q ∈ insertPeer p l ↔ q = p ∨ q ∈ l := by
  induction l with
  | nil => simp [insertPeer]
  | cons r rest ih =>
    unfold insertPeer
    split
    · simp
    · simp [ih]
      tauto

/-- Placing an entry of a new number keeps the table in ascending order (R109). -/
theorem insertPeer_pairwise (p : Peer) (l : List Peer)
    (h : l.Pairwise fun a b => a.station < b.station) (hn : ∀ q ∈ l, q.station ≠ p.station) :
    (insertPeer p l).Pairwise fun a b => a.station < b.station := by
  induction l with
  | nil => simp [insertPeer]
  | cons r rest ih =>
    obtain ⟨hr, hrest⟩ := List.pairwise_cons.mp h
    unfold insertPeer
    split
    · rename_i hlt
      refine List.pairwise_cons.mpr ⟨?_, h⟩
      intro q hq
      rcases List.mem_cons.mp hq with rfl | hq
      · exact hlt
      · exact Nat.lt_trans hlt (hr q hq)
    · rename_i hge
      refine List.pairwise_cons.mpr ⟨?_, ih hrest fun q hq => hn q (List.mem_cons_of_mem _ hq)⟩
      intro q hq
      rcases (mem_insertPeer p q rest).mp hq with rfl | hq
      · have := hn r (List.mem_cons_self ..)
        omega
      · exact hr q hq

/-- Removing an entry keeps the order of the others (R118). -/
theorem removePeer_pairwise (l : List Peer) (n : Nat) (h : l.Pairwise fun a b => a.station < b.station) :
    (removePeer l n).Pairwise fun a b => a.station < b.station := h.filter _

/-- Changing an entry without its number keeps the numbers of the table. -/
theorem updatePeer_stations (l : List Peer) (n : Nat) (f : Peer → Peer) (h : ∀ p, (f p).station = p.station) :
    (updatePeer l n f).map Peer.station = l.map Peer.station := by
  unfold updatePeer
  rw [List.map_map]
  apply List.map_congr_left
  intro p _
  simp only [Function.comp]
  split
  · exact h p
  · rfl

/-- An entry found has the number asked for and stands in the table. -/
theorem findPeer_some (l : List Peer) (n : Nat) (p : Peer) (h : findPeer l n = some p) :
    p.station = n ∧ p ∈ l := by
  refine ⟨?_, List.mem_of_find?_eq_some h⟩
  simpa using List.find?_some h

/-- No entry is found exactly when none has the number. -/
theorem findPeer_none (l : List Peer) (n : Nat) : findPeer l n = none ↔ ∀ p ∈ l, p.station ≠ n := by
  simp [findPeer]

@[simp] theorem takeBody_station (p : Peer) (b : Body) : (p.takeBody b).station = p.station := by
  cases b <;> rfl

/-! ### Share line -/

/-- The line after a collision holds no transmission, and its count stays at 3 or below (R88). -/
theorem ShareLine.abort_collisions_le (l : ShareLine) : l.abort.collisions ≤ 3 := Nat.min_le_left _ _

@[simp] theorem ShareLine.abort_transmission (l : ShareLine) : l.abort.transmission = none := rfl

/-- A slot taken starts the eligible frame or nothing, and is taken in either case (R81, R82). -/
theorem ShareLine.takeSlot_cases (l : ShareLine) (cfg : Configuration) (now : Micros) :
    (l.eligible cfg now = none ∧ l.takeSlot cfg now = { l with slotTaken := true }) ∨
    ∃ body, l.eligible cfg now = some body ∧
      l.takeSlot cfg now = { l.startFrame cfg body with slotTaken := true } := by
  unfold ShareLine.takeSlot
  split
  · exact .inl ⟨‹_›, rfl⟩
  · exact .inr ⟨_, ‹_›, rfl⟩

/-- A taken slot is no own slot any more, so nothing is due in it (R81). -/
theorem ShareLine.atOwnSlot_of_taken (l : ShareLine) (cfg : Configuration) (now : Micros)
    (h : l.slotTaken = true) : l.atOwnSlot cfg now = false := by
  simp [ShareLine.atOwnSlot, h]

@[simp] theorem ShareLine.elapse_slotTaken (l : ShareLine) : l.elapse.slotTaken = false := rfl

/-! ### Protection inputs and SDO -/

@[simp] theorem ProtectionInput.elapse_sampled (p : ProtectionInput) : p.elapse.sampled = false := rfl

@[simp] theorem ProtectionInput.elapse_edge (p : ProtectionInput) : p.elapse.edge = p.edge := rfl

@[simp] theorem ProtectionInput.elapse_action (p : ProtectionInput) : p.elapse.action = p.action := rfl

@[simp] theorem ProtectionInput.elapse_level (p : ProtectionInput) : p.elapse.level = p.level := rfl

/-- A second command of one input in a microsecond changes nothing (R170). -/
theorem execProtectionEdge_of_sampled (s : State) (n : Fin 4) (level : Bool) (h : s.protection[n].sampled = true) :
    execProtectionEdge n level s = .next s := by
  simp only [execProtectionEdge, h, if_true]

/-- A sample is taken without an action, or with the one of a matching edge in a configured part (R171). -/
theorem State.takeSample_cases (s : State) (n : Fin 4) (level : Bool) :
    s.takeSample n level = s.sampleInput n level ∨
    ∃ cfg, s.port.config = some cfg ∧ edgeMatches s.protection[n].edge s.protection[n].level level = true ∧
      s.takeSample n level = (s.sampleInput n level).protectionAction cfg n s.protection[n].action := by
  have hp : (s.sampleInput n level).port = s.port := rfl
  unfold State.takeSample State.configured
  rw [hp]
  split
  · exact .inl rfl
  · split
    · exact .inr ⟨_, ‹_›, ‹_›, rfl⟩
    · exact .inl rfl

/-- Beyond the bits of what it sends, SDO is at 0 (R187). -/
theorem SupervisorPort.sdoBit_of_le (p : SupervisorPort) (k : Nat) (h : p.sdo.length ≤ k) : p.sdoBit k = false := by
  simp [SupervisorPort.sdoBit, List.getD, List.getElem?_eq_none h]

@[simp] theorem bitsOfBytes_length (bytes : List Byte) : (bitsOfBytes bytes).length = 8 * bytes.length := by
  induction bytes with
  | nil => rfl
  | cons b rest ih =>
    simp only [bitsOfBytes, List.flatMap_cons, List.length_append, List.length_cons] at *
    rw [ih]
    simp [bitsOfByte]
    omega

/-! ### The neighbours of a figure set -/

/-- A release noted leaves everything but the stage, and moves that from taken to released alone (R167). -/
theorem Delivery.noteRelease_cases (d : Delivery) (before : StationState) :
    d.noteRelease before = d ∨
    (d.stage = .taken ∧ d.state.station.state ≠ before ∧
      (d.state.station.state = .starting ∨ d.state.station.state = .restart) ∧
      d.noteRelease before = { d with stage := .released }) := by
  unfold Delivery.noteRelease
  split
  · rename_i h
    exact .inr ⟨h.1, h.2.1, h.2.2, rfl⟩
  · exact .inl rfl

end Sys2Proof.Machine
end

