-- ==== Sys2Proof/Tests/Slice0.lean ====
section
/-! SUPPORT. Tests: ill-formed commands, the spec's worked cases, and for every statement with hypotheses a
state and operands that meet them, its clauses at their boundary values. -/

open Sys2Proof Sys2Proof.Machine

namespace Sys2Proof.Tests

/-! The kernel evaluates most tests. One at a time, so that they share one thread's memory. -/

set_option Elab.async false

/-! ### Ill-formed commands -/

/-- Plant inputs of zero, at 25 degrees. -/
def still : PlantInputs := ⟨0, 0, 0, 0, 0, 25⟩

theorem test_order_with_a_repeat_is_ill_formed :
    Instr.wellFormed (.sectorBoundary still [.classifier, .classifier, .overcurrent, .overTemperature,
      .controller, .regulator]) = false := by decide

theorem test_short_order_is_ill_formed :
    Instr.wellFormed (.freeRunningBoundary still [.classifier]) = false := by decide

theorem test_whole_order_is_well_formed :
    Instr.wellFormed (.sectorBoundary still [.generator, .regulator, .controller, .overTemperature,
      .overcurrent, .classifier]) = true := by decide

theorem test_twenty_three_characters_are_ill_formed :
    Instr.wellFormed (.frameReceived (List.replicate 23 (characterOf 0))) = false := by decide

theorem test_recessive_start_bit_is_ill_formed :
    Instr.wellFormed (.frameReceived [0x3FF#10]) = false := by decide

theorem test_empty_readback_is_ill_formed : Instr.wellFormed (.collision []) = false := by decide

/-! ### The configuration of the tests -/

/-- The parameter bytes of a LOAD CONFIG, field by field in the order of R190: the values of sections 2.6, 3.5,
8.8 and 9.2 where those give one, for station 3 of group 1. -/
def message : List Byte :=
  [3, 1, 0x2E, 0xE0, 0x3A, 0x98, 0x07, 0x08, 0x02, 0x58, 50, 0x00, 0x96, 5, 0x00, 20, 0x00, 100] ++
  [0x27, 0x10, 0x4E, 0x20, 0x4E, 0x20, 1, 0x07, 0xD0, 0x00, 0x00, 0x0B, 0xB8, 0x13, 0x88, 0x00, 60] ++
  [0x01, 0xF4, 0x03, 0xB6, 1, 70, 90, 0x03, 0x52, 0x03, 0x84, 0x00, 100] ++
  [2, 0x00, 0x00, 0x02, 0xBC, 0x01, 0xF4, 0x03, 0x20] ++ List.replicate 24 0xFF ++
  [0x00, 150, 20, 0x07, 0xD0, 0x0B, 0xB8, 0x00, 150, 0x05, 0xDC, 0x02, 0x58, 0x00, 64, 0x00, 16] ++
  [0x00, 0x1E, 0x84, 0x80, 0x01, 0xF4, 0x32, 0xC8, 0x02, 0x08, 0x10, 0x21, 0x32, 0x02, 0x18, 0x02, 0x08]

/-- The same configuration as field values. -/
def plan : Configuration where
  station := 3
  group := 1
  rating := 12000
  currentFullScale := 15000
  peakCount := 1800
  voltageFullScale := 600
  nominalHertz := 50
  phaseShift := 150
  sharePeriod := 5
  tSilent := 20
  tLost := 100
  rampUp := 10000
  rampDown := 20000
  rampRestart := 20000
  coverEnabled := true
  coverLimit := 2000
  plantMinimum := 3000
  tLow := 5000
  currentZero := 60
  voltFloor := 500
  voltFull := 950
  temperatureFitted := true
  tDerate := 70
  tMax := 90
  voltSag := 850
  voltRecovered := 900
  tRecovery := 100
  envelope := [⟨0, 700⟩, ⟨500, 800⟩]
  jumpThreshold := 150
  frequencyBand := 20
  tFrequencyMax := 2000
  tBlockMax := 3000
  alphaMin := 150
  alphaMax := 1500
  alphaBias := 600
  gainP := 64
  gainI := 16
  integratorLimit := 2000000
  pulseWidth := 500
  overcurrent := 13000
  voltageMax := 520
  inputs := #v[(.rising, .trip), (.falling, .standby), (.both, .report), (.off, .report)]
  urgent := #v[false, false, false, true, true, false, false, false, false, true, false, false, false, false,
    false, false, false, false, false, true, false, false, false, false]

theorem test_message_has_115_bytes : message.length = 115 := by decide +kernel

theorem test_message_spells_the_plan : configurationOf message = plan := by decide +kernel

theorem test_message_passes : configurationFault message = none := by decide +kernel

theorem test_plan_is_in_range : configurationInRange plan = true := by decide +kernel

/-- Section 11.6, transfer 2: V_full 540 with V_floor 500 fails at field 21. -/
theorem test_message_fails_at_field_21 :
    configurationFault ((message.set 37 0x02).set 38 0x1C) = some 21 := by decide +kernel

/-! ### States of the tests -/

/-- The state a command leads to. -/
def after (c : Instr) (s : State) : State :=
  match exec c s with
  | .next t => t
  | .fault _ => s
  | .refused _ => s

/-- The part after power-on with a LOAD CONFIG in progress. -/
def asking : State := { State.reset with port := { SupervisorPort.reset with request := some (.loadConfig message) } }

/-- The configured part in OFF, as R192 leaves it. -/
def offPart : State :=
  { State.reset with
    station := { Station.reset with state := .off }
    tracker := { Tracker.reset with period := 20000, figure := 500 }
    sampler :=
      { Sampler.reset with
        mode := .free
        sector := some ⟨0, 20000, 1⟩
        freeTimer := some 3333
        sink := some 25 }
    classifier := { Classifier.reset with state := .normal }
    line := { ShareLine.reset with view := .seeking }
    filter := { FrameFilter.reset with station := some 3, group := some 1 }
    allocator := { Allocator.reset with steps := some ⟨50, 100, 100⟩, shareTimer := some 5000 }
    regulator := ⟨0, 1500, .high⟩
    protection := #v[⟨.rising, .trip, false, false⟩, ⟨.falling, .standby, false, false⟩,
      ⟨.both, .report, false, false⟩, ⟨.off, .report, false, false⟩]
    events := { EventUnit.reset with urgent := plan.urgent }
    port := { SupervisorPort.reset with config := some plan } }

theorem test_load_config_leaves_off :
    after (.loadConfig still) asking =
      { offPart with port := { offPart.port with response := some ⟨.done, []⟩ } } := by decide +kernel

/-- Three peers as section 8.8 has them: two that run with headroom, and station 2 that rides through a sag. -/
def runningPeer (n : Nat) : Peer :=
  ⟨n, .fresh, 3, 10000, 10000, 12000, 0, 2000, 0, 1000, some 5, 9, 3, 998, 0⟩

def ridingPeer : Peer := ⟨2, .fresh, 4, 10000, 5333, 5333, 4667, 0, 0, 700, some 5, 41, 0, 999, 7⟩

/-- The part in RUN behind the lock of section 2.6, just after its boundary 0 at 1,100,954 and before sample 1
of that sector. -/
def runPart : State :=
  { offPart with
    time := 1100960
    station := { Station.reset with state := .run, lowLoadRunning := true }
    tracker :=
      { state := .locked
        previous := some 1100120
        intervals := [20020, 20050, 19990, 20020]
        acquired := 4
        anchor := some 1100120
        period := 20020
        figure := 499
        next := some ⟨1104290, 1, 1⟩
        deadline := some 1125145
        lastIndex := some 0 }
    sampler :=
      { Sampler.reset with
        mode := .tracked
        sector := some ⟨1100954, 20020, 1⟩
        windowAB := List.replicate 95 0 ++ [1803]
        windowBC := List.replicate 95 0 ++ [-1795]
        windowCA := List.replicate 95 0 ++ [1800]
        currentSum := 3111
        voltageSum := 3000
        cycle := 5
        sink := some 25
        figures := ⟨1001, 997, 1000, 997, 11391, 439, some 25, 12000, 12000, 12000⟩ }
    classifier := { Classifier.reset with state := .normal, latestFigure := some 499 }
    line := { ShareLine.reset with view := .quiet, quietAt := some 1100890, nextSequence := 9, highWater := 1 }
    peers := [runningPeer 0, runningPeer 1, ridingPeer]
    allocator :=
      { offPart.allocator with
        demand := 10000
        setpoint := 10000
        target := 10000
        headroom := 2000
        latestC := 12000
        latestI := 11391
        shareTimer := some 1105000
        lastUpdate := some (1100000, 1100)
        ms := 1100
        msPhase := 960 }
    regulator := ⟨100000, 300, .none⟩
    gates :=
      { mode := .enabled
        latched := some 161
        firings := [⟨0, 1101849, 1100954⟩]
        outputs := #v[none, none, none, none, none, none] } }

/-- The same part in another state, with nothing held that only the states of R13, R20 and R24 hold. -/
def partIn (st : StationState) : State :=
  { runPart with
    station := { Station.reset with state := st }
    allocator := { runPart.allocator with setpoint := if st.firing then 10000 else 0, headroom := 0 }
    gates := if st.firing then runPart.gates else blockedGates runPart.gates }

/-- The part in a state that holds context records: a sag was the first disturbance. -/
def heldIn (st : StationState) : State :=
  { partIn st with
    station :=
      { Station.reset with
        state := st
        stack := [⟨.sag, 102480, 10000⟩]
        blockedSince := if st = .blocked then some 1000000 else none } }

/-- The part in STANDBY by request. -/
def standbyPart : State :=
  { partIn .standby with station := { Station.reset with state := .standby, standbyOrigin := some .request } }

/-- The part in STOPPING toward a destination. -/
def stoppingPart (destination : Destination) (origin : Option StoppingOrigin) : State :=
  { partIn .stopping with
    station :=
      { Station.reset with
        state := .stopping
        destination := some destination
        stoppingOrigin := origin } }

/-- The part TRIPPED by a cause out of RUN. -/
def trippedPart (cause : TripCause) : State :=
  { partIn .tripped with fault := ⟨some (pictureOf runPart cause), 254⟩ }

/-- A part with a request in progress. -/
def asked (s : State) (r : Request) : State := { s with port := { s.port with request := some r } }

/-- The code and data of the response a part has formed. -/
def responded (s : State) : Option (ResponseCode × List Byte) := s.port.response.map fun r => (r.code, r.data)

/-! ### The step and the resets -/

theorem test_step_takes_the_front :
    step { offPart with pending := [.srstRelease, .firing] } =
      exec .srstRelease { offPart with pending := [.firing] } := rfl

/-- A part without a configuration, a part one microsecond before its first sample instant, and the instant
itself; entries whose age is about to rise and not. -/
theorem witness_idle :
    State.reset.pending = [] ∧ State.reset.eventDue = false ∧ State.reset.port.config = none ∧
    ({ offPart with time := 207 } : State).eventDue = false ∧
    ({ offPart with time := 208 } : State).eventDue = true ∧
    runPart.pending = [] ∧ runPart.eventDue = false ∧ runPart.port.config ≠ none ∧
    (runPart.peers.map Peer.agePhase = [998, 998, 999]) ∧ runPart.allocator.msPhase = 960 := by
  decide +kernel

theorem test_idle_raises_an_age_at_its_millisecond :
    (State.idle runPart).peers.map Peer.age = [3, 3, 1] ∧ (State.idle runPart).time = 1100961 := by
  decide +kernel

/-- The part in a disturbance with its onset and elapsed count, in a slot that has been taken. -/
def counting (onset : Micros) (d : Nat) : State :=
  { runPart with
    classifier :=
      { runPart.classifier with
        state := .disturbed, active := ⟨true, false, false, false⟩, onset := some onset, elapsed := some d }
    line := { runPart.line with slotTaken := true } }

/-- The elapsed count rises at each 1000 us after t0 and stops at the last point's time, 500 ms (R71). -/
theorem test_idle_counts_the_disturbance :
    (counting 1098961 1).eventDue = false ∧ plan.envelope.getLast?.map EnvelopePoint.time = some 500 ∧
    (State.idle (counting 1098961 1)).classifier.elapsed = some 2 ∧
    (State.idle (counting 1098962 1)).classifier.elapsed = some 1 ∧
    (State.idle (counting 600961 499)).classifier.elapsed = some 500 ∧
    (State.idle (counting 600961 500)).classifier.elapsed = some 500 ∧
    (State.idle (counting 600961 500)).line.slotTaken = false := by
  decide +kernel

/-- SRST stays asserted over POWER_ON_RESET: the port takes no transfer until the release (R195). -/
theorem test_power_on_reset_keeps_the_srst_line :
    (after .powerOnReset (after .srst runPart)).port.srstAsserted = true ∧
    (after .transferStart (after .powerOnReset (after .srst runPart))).port.transfer = none ∧
    (after .transferStart (after .powerOnReset (after .srst runPart))).port.sdo = [] ∧
    (after .powerOnReset runPart).port.srstAsserted = false := by
  decide +kernel

/-- Every group of R28, TRIPPED among those that keep a full alert queue. -/
theorem witness_srst :
    (∀ s ∈ [State.reset, offPart, runPart, heldIn .restart, stoppingPart .off none, standbyPart,
        trippedPart .overTemperature],
      s.station.StackFits ∧ (s.port.config.all fun cfg => configurationInRange cfg) = true ∧
        (s.port.config = none ↔ s.station.state = .unconfigured)) := by
  decide +kernel

theorem test_srst_keeps_a_tripped_station :
    (after .srst (trippedPart .overTemperature)).station.state = .tripped ∧
    (after .srst (trippedPart .overTemperature)).allocator.demand = 10000 ∧
    (after .srst runPart).allocator.demand = 0 ∧ (after .srst runPart).line.highWater = 1 := by
  decide +kernel

/-! ### The supervisor port -/

/-- A formed response, none with and without a request, and SRST asserted. -/
theorem witness_transfer_start :
    State.reset.port.transfer = none ∧ State.reset.port.srstAsserted = false ∧ State.reset.port.response = none ∧
    State.reset.port.request = none ∧ asking.port.request ≠ none ∧
    ((after (.loadConfig still) asking).port.response = some ⟨.done, []⟩) ∧
    (after .srst State.reset).port.srstAsserted = true ∧ (after .srst State.reset).port.transfer = none := by
  decide +kernel

/-- Section 11.6, transfers 1 and 5: NOT_READY with 0 and with 1. -/
theorem test_not_ready_says_whether_a_request_is_in_progress :
    (after .transferStart State.reset).port.sdo = carried [4, 1, 0] ∧
    (after .transferStart asking).port.sdo = carried [4, 1, 1] := by decide

/-- 4, 1, 1 on SDO, written out bit by bit, with the first bit of a byte, its last, and one behind the last byte. -/
theorem witness_sdo_bits :
    (after .transferStart asking).port.sdo =
      [false, false, false, false, false, true, false, false] ++
      [false, false, false, false, false, false, false, true] ++
      [false, false, false, false, false, false, false, true] ∧
    (after .transferStart asking).port.sdoBit (8 * 0 + 5) = true ∧
    (after .transferStart asking).port.sdoBit (8 * 2 + 7) = true ∧
    (after .transferStart asking).port.sdoBit (8 * 3 + 0) = false := by decide

/-- The part in a transfer that has received some bytes. -/
def receiving (s : State) (bytes : List Byte) : State := { s with port := { s.port with transfer := some bytes } }

/-- The bits of bytes. -/
def bits (bytes : List Byte) : List Bool := bytes.flatMap bitsOfByte

/-- The checks of R188 at their edges: no byte, kind 0, a request in progress, a kind alone, one parameter
short, kinds 12, 13 and 255, a part without a configuration, lengths that are not allowed, and complete requests
with a byte to spare. -/
theorem witness_transfer_end :
    (receiving offPart []).port.transfer = some [] ∧ [] ++ bytesOfBits [] = ([] : List Byte) ∧
    [] ++ bytesOfBits (bits [0, 0]) = [0#8, 0#8] ∧ offPart.port.request = none ∧ asking.port.request ≠ none ∧
    [2#8] ++ bytesOfBits [true] = [2#8] ∧ ([5#8] : List Byte).length < (2#8).toNat ∧
    12 < (13#8).toNat ∧ 12 < (255#8).toNat ∧ (12#8).toNat ≤ 12 ∧
    State.reset.port.config = none ∧ (12#8).toNat ≠ 1 ∧ (12#8).toNat ≠ 3 ∧ offPart.port.config ≠ none ∧
    (0#8).toNat ≤ ([7#8] : List Byte).length ∧ (48#8).toNat ≤ (List.replicate 48 (1#8)).length := by
  decide +kernel

/-- A transfer that SRST discarded and one that began under it, at their ends (R195). -/
theorem witness_transfer_end_without_a_transfer :
    (after .srst (receiving offPart [2])).port.transfer = none ∧
    (after .transferStart (after .srst offPart)).port.transfer = none ∧
    after (.transferEnd (bits [2, 2, 0, 1])) (after .transferStart (after .srst offPart)) =
      after .transferStart (after .srst offPart) := by
  decide +kernel

theorem witness_lengths_allowed :
    lengthAllowed 1 115 ∧ ¬ lengthAllowed 1 114 ∧ lengthAllowed 2 2 ∧ ¬ lengthAllowed 2 1 ∧ lengthAllowed 8 1 ∧
    lengthAllowed 11 0 ∧ lengthAllowed 11 48 ∧ ¬ lengthAllowed 11 47 ∧ ¬ lengthAllowed 11 50 ∧
    lengthAllowed 12 0 ∧ ¬ lengthAllowed 12 1 := by
  simp [lengthAllowed]

/-- Section 11.6, transfers 3 and 6. -/
theorem test_transfer_end_judges :
    responded (after (.transferEnd (bits [4, 0])) (receiving State.reset [])) = some (.refusedUnconfigured, []) ∧
    (after (.transferEnd (bits [0x36, 0xB0])) (receiving offPart [2, 2])).port.request =
      some (.setDemand 14000) ∧
    responded (after (.transferEnd (bits [1, 2])) (receiving offPart [2])) = some (.refusedRange, [0]) ∧
    responded (after (.transferEnd (bits [13, 0])) (receiving offPart [])) = some (.unknownRequest, []) := by
  decide +kernel

theorem witness_unfinished_bits : ([] : List Bool).length < 8 ∧ (List.replicate 7 true).length < 8 := by decide

theorem message_passes_every_field : everyFieldPasses message := by
  have every : ∀ k ∈ List.range 44, fieldPasses message k = true := by decide +kernel
  exact fun k _ h => every k (List.mem_range.2 (by omega))

theorem witness_load_config_accepted :
    asking.port.request = some (.loadConfig message) ∧ message.length = 115 ∧ asking.port.config = none ∧
    everyFieldPasses message ∧ plan = spelledConfiguration message :=
  ⟨rfl, test_message_has_115_bytes, rfl, message_passes_every_field, by decide +kernel⟩

/-- Another count of envelope points and other bytes for the last of 8 points, in the message. -/
def enveloped (points : Byte) (last : List Byte) : List Byte :=
  message.take 48 ++ [points] ++ ((List.range 28).map fun i =>
    if i % 4 = 1 then BitVec.ofNat 8 (i - 1) else if i % 4 = 2 then 2 else 0#8) ++ last ++ message.drop 81

/-- Envelopes of 8, 0 and 9 points, and of 8 whose last comes at 10,000 and at 10,001 ms, stands still, falls, and ends
at and above V_sag (R191). -/
theorem witness_envelopes :
    fieldPasses (enveloped 8 [0x27, 0x10, 0x03, 0x52]) 28 = true ∧
    configurationFault (enveloped 8 [0x27, 0x10, 0x03, 0x52]) = none ∧
    (spelledConfiguration (enveloped 8 [0x27, 0x10, 0x03, 0x52])).envelope.getLast? = some ⟨10000, 850⟩ ∧
    (∀ e ∈ [enveloped 0 [0x27, 0x10, 0x03, 0x52], enveloped 9 [0x27, 0x10, 0x03, 0x52],
        enveloped 8 [0x27, 0x11, 0x03, 0x52], enveloped 8 [0x27, 0x10, 0x03, 0x53],
        enveloped 8 [0x27, 0x10, 0x01, 0xFF], enveloped 8 [0x00, 0x18, 0x03, 0x52]],
      e.length = 115 ∧ fieldPasses e 28 = false ∧ configurationFault e = some 28) := by
  decide +kernel

/-- Fields 1, 21 and 42 at fault, lengths one beside 115, and a part configured already. -/
theorem witness_load_config_refused :
    (message ++ [0]).length ≠ 115 ∧ (message.drop 1).length ≠ 115 ∧ offPart.port.config ≠ none ∧
    fieldPasses (message.set 0 16) 1 = false ∧
    fieldPasses ((message.set 37 0x02).set 38 0x1C) 21 = false ∧
    (∀ j, j < 21 → fieldPasses ((message.set 37 0x02).set 38 0x1C) j = true) ∧
    fieldPasses (message.set 108 0x13) 42 = false ∧
    (∀ j, j < 42 → fieldPasses (message.set 108 0x13) j = true) := by
  decide +kernel

theorem test_load_config_refused_at_21 :
    responded (after (.loadConfig still)
      (asked State.reset (.loadConfig ((message.set 37 0x02).set 38 0x1C)))) = some (.refusedRange, [21]) := by
  decide +kernel

/-- What a statement about a request asks of a configured part. -/
theorem witness_asked :
    (∀ r ∈ [Request.setDemand 12000, .setDemand 12001, .readStatus, .start, .stop, .standby, .clearFault,
        .readPeer 15, .readPeer 16, .forgetPeer 2, .readEvents, .ackEvents [(1, 1), (2, 1)], .readFault],
      (asked runPart r).port.request = some r ∧ (asked runPart r).port.config = some plan) ∧
    configurationInRange plan = true ∧
    (asked State.reset .start).port.request = some .start ∧ (asked State.reset .start).port.config = none := by
  decide +kernel

/-- Section 11.6, transfer 6: 14,000 is stored as 12,000 in OFF; elsewhere it waits. -/
theorem test_set_demand_is_clamped :
    (after .setDemand (asked offPart (.setDemand 14000))).allocator.demand = 12000 ∧
    responded (after .setDemand (asked offPart (.setDemand 14000))) = some (.done, [0x2E, 0xE0]) ∧
    (after .setDemand (asked offPart (.setDemand 14000))).events.counters[23] = 1 ∧
    (after .setDemand (asked offPart (.setDemand 14000))).events.attnR = true ∧
    (after .setDemand (asked runPart (.setDemand 9000))).allocator.pendingDemand = some 9000 := by
  decide +kernel

/-- Section 11.6, transfer 3: the answer of an unconfigured part starts with zeros and carries -32,768. -/
theorem test_read_status_unconfigured :
    responded (after .readStatus (asked State.reset .readStatus)) =
      some (.done, List.replicate 28 0 ++ [0x80, 0x00] ++ List.replicate 34 0) := by decide +kernel

/-- The stations that START, STOP and STANDBY tell apart. -/
theorem witness_requests_by_state :
    (∀ st ∈ [StationState.off, .syncing, .starting, .run],
      (partIn st).station.StackFits ∧ (partIn st).station.state = st) ∧
    (∀ st ∈ [StationState.ride, .blocked, .restart],
      (heldIn st).station.StackFits ∧ (heldIn st).station.state = st) ∧
    standbyPart.station.StackFits ∧ (stoppingPart .standby (some .lowLoad)).station.StackFits ∧
    (trippedPart (.protection 0)).station.StackFits := by
  decide +kernel

theorem test_start_from_off_and_from_standby :
    (after .start (asked (partIn .off) .start)).station.state = .syncing ∧
    (after .start (asked (partIn .off) .start)).line.firstFlag = true ∧
    (after .start (asked standbyPart .start)).line.nextSequence = 9 ∧
    responded (after .start (asked runPart .start)) = some (.refusedState, []) := by decide +kernel

theorem test_stop_by_state :
    (after .stop (asked runPart .stop)).station.destination = some .off ∧
    (after .stop (asked (heldIn .blocked) .stop)).line.alertQueue = [⟨.leave, 1100960⟩] ∧
    (after .stop (asked (heldIn .blocked) .stop)).station.stack = [] := by decide +kernel

theorem test_standby_by_state :
    (after .standby (asked runPart .standby)).station.stoppingOrigin = some .request ∧
    (after .standby (asked (heldIn .blocked) .standby)).station.standbyOrigin = some .request := by
  decide +kernel

/-- A recorded input at its active level and back from it, and a cause that is no input. -/
theorem witness_clear_fault :
    (trippedPart (.protection 0)).fault.picture = some (pictureOf runPart (.protection 0)) ∧
    (trippedPart (.protection 0)).protection[(0 : Fin 4)] = ⟨.rising, .trip, false, false⟩ ∧
    (trippedPart (.protection 1)).protection[(1 : Fin 4)] = ⟨.falling, .standby, false, false⟩ ∧
    (pictureOf runPart .dcOvercurrent).cause = .dcOvercurrent ∧
    (trippedPart (.protection 0)).station.state = .tripped := by
  decide +kernel

/-- Section 10.6: the clear waits for the input to leave its active level. -/
theorem test_clear_fault_by_level :
    (after .clearFault (asked (trippedPart (.protection 0)) .clearFault)).station.state = .off ∧
    responded (after .clearFault (asked (sampledInput (trippedPart (.protection 0)) 0 true) .clearFault)) =
      some (.refusedCondition, []) ∧
    responded (after .clearFault (asked (trippedPart (.protection 1)) .clearFault)) =
      some (.refusedCondition, []) := by decide +kernel

theorem witness_peers_are_ordered :
    runPart.peers.Pairwise (fun a b => a.station < b.station) ∧ ridingPeer ∈ runPart.peers ∧
    (∀ p ∈ runPart.peers, p.station ≠ 15) ∧
    runPart.peers.find? (fun q => decide (q.station = 2)) = some ridingPeer := by
  decide +kernel

theorem test_read_peer_two :
    responded (after .readPeer (asked runPart (.readPeer 2))) =
      some (.done, [2, 1, 4, 0x27, 0x10, 0x14, 0xD5, 0x14, 0xD5, 0x12, 0x3B, 0, 0, 0, 0, 0x02, 0xBC, 5, 41, 0, 0,
        7]) ∧
    responded (after .readPeer (asked runPart (.readPeer 15))) = some (.absent, []) ∧
    responded (after .readPeer (asked runPart (.readPeer 16))) = some (.refusedRange, [1]) := by decide +kernel

/-- The part with station 2 in a status. -/
def withStatus (status : PeerStatus) (age : Nat) : State :=
  { runPart with peers := [runningPeer 0, runningPeer 1, { ridingPeer with status := status, age := age }] }

theorem test_forget_peer_by_status :
    (after .forgetPeer (asked (withStatus .lost 100) (.forgetPeer 2))).peers = [runningPeer 0, runningPeer 1] ∧
    responded (after .forgetPeer (asked (withStatus .silent 100) (.forgetPeer 2))) = some (.refusedState, []) ∧
    responded (after .forgetPeer (asked (withStatus .lost 100) (.forgetPeer 3))) = some (.refusedRange, [1]) := by
  decide +kernel

/-- A part with the counters of kinds 1, 2 and 18. -/
def withCounts (onset block gap : Nat) (marker : Bool) : State :=
  { runPart with
    events := (EventUnit.driveLines
      { runPart.events with
        counters := ((runPart.events.counters.set 0 onset).set 1 block).set 17 gap
        overflow := runPart.events.overflow.set 17 marker }) }

theorem test_read_events_reports :
    ((responded (after .readEvents (asked (withCounts 1 1 255 true) .readEvents))).map fun r =>
      (r.2.take 3, r.2.drop 17)) = some ([1, 1, 0], [255, 0, 0, 0, 0, 0, 0, 0, 0, 2]) := by
  decide +kernel

/-- Section 10.5: the pairs that follow a second onset, and a marker cleared with its count. -/
theorem test_ack_events_subtracts :
    (after .ackEvents (asked (withCounts 2 1 255 true) (.ackEvents [(1, 1), (2, 1), (18, 255)]))).events =
      (withCounts 1 0 0 false).events ∧
    responded (after .ackEvents (asked (withCounts 2 1 255 true) (.ackEvents [(18, 10), (25, 1)]))) =
      some (.refusedRange, [3]) := by decide +kernel

/-- Good pairs, and a pair at fault by 0, by 25 and by a repeat. -/
theorem witness_ack_pairs :
    (∀ p ∈ [((1 : Nat), (1 : Nat)), (24, 255)], 1 ≤ p.1 ∧ p.1 ≤ 24) ∧
    ([((1 : Nat), (1 : Nat)), (24, 255)].map Prod.fst).Nodup ∧
    [((0 : Nat), (1 : Nat))][0]?.map Prod.fst = some 0 ∧ [((18 : Nat), (1 : Nat)), (25, 1)][1]?.map Prod.fst = some 25 ∧
    [((18 : Nat), (1 : Nat)), (18, 1)][0]?.map Prod.fst = [((18 : Nat), (1 : Nat)), (18, 1)][1]?.map Prod.fst ∧
    (([((18 : Nat), (1 : Nat)), (25, 1)].take 1).map Prod.fst).Nodup := by decide

theorem test_read_fault_reports :
    responded (after .readFault (asked (trippedPart .dcOvercurrent) .readFault)) =
      some (.done, [4, 3, 0x27, 0x10, 0x2C, 0x7F, 0x03, 0xE5, 0x01, 0x2C, 0x00, 0x19, 0, 2, 1, 3, 254]) ∧
    responded (after .readFault (asked runPart .readFault)) = some (.noRecord, []) := by decide +kernel

/-- A counter below 255, one at 255, and another kind. -/
theorem witness_occurrence :
    (0 : Fin 24).val + 1 = kindNumber .onset ∧ (withCounts 254 0 255 false).events.counters[(0 : Fin 24)] < 255 ∧
    (17 : Fin 24).val + 1 = kindNumber .seqGap ∧ 255 ≤ (withCounts 254 0 255 false).events.counters[(17 : Fin 24)] ∧
    (23 : Fin 24).val + 1 = kindNumber .demandClamped ∧ (1 : Fin 24) ≠ 0 := by decide +kernel

/-! ### Grid Phase Tracker (section 2.6) -/

/-- The configured part with a tracker, at a time. -/
def tracking (time : Micros) (k : Tracker) : State :=
  { offPart with time := time, tracker := k }

/-- The tracker in acquisition with a run and its previous capture. -/
def acquiring (previous : Micros) (run : List Nat) : Tracker :=
  { offPart.tracker with
    state := .acquiring
    previous := some previous
    intervals := run
    acquired := run.length
    anchor := some 1020040 }

/-- The state of section 2.6 before its c5. -/
def beforeLock : State := tracking 1100120 (acquiring 1080100 [20020, 20050, 19990])

/-- The state of section 2.6 before its c6, with its last boundary index 5 issued. -/
def beforeC6 : State :=
  { runPart with
    time := 1120180
    tracker := { runPart.tracker with lastIndex := some 5, next := some ⟨1120974, 0, 6⟩ } }

theorem forall_of_some {α : Type} {o : Option α} {a : α} {P : α → Prop} (ha : o = some a) (h : P a) :
    ∀ x, o = some x → P x := by
  intro x hx
  rw [ha] at hx
  cases hx
  exact h

/-- Before lock: no previous capture, intervals one beside the plausible range 16,000 to 25,000 and its ends, a
run that agrees by 200 and one that breaks by 201, and the third interval of a run. -/
theorem witness_capture_before_lock :
    beforeLock.port.config = some plan ∧ configurationInRange plan = true ∧ beforeLock.station.StackFits ∧
    offPart.tracker.previous = none ∧ ¬ plausibleInterval plan 15999 ∧ plausibleInterval plan 16000 ∧
    plausibleInterval plan 25000 ∧ ¬ plausibleInterval plan 25001 ∧
    (acquiring 1080100 [20020]).intervals.getLast? = some 20020 ∧ ¬ nominalMicros plan < 100 * (20220 - 20020) ∧
    nominalMicros plan < 100 * (20221 - 20020) ∧ (acquiring 1080100 [20020, 20050]).acquired < 3 ∧
    (acquiring 1080100 [20020]).state = .acquiring ∧ offPart.tracker.state = .unlocked := by
  unfold plausibleInterval
  decide +kernel

/-- The part in RUN after reports out of band, and in a disturbance of a kind. -/
def reporting (count : Nat) (st : ClassifierState) (active : ActiveSet) : State :=
  { runPart with
    classifier := { runPart.classifier with outOfBand := count, state := st, active := active } }

/-- Figures 480 and 520 lie in the band and 479 and 521 outside it (R64); the third report outside it in a row is an
onset and a ride (R68, R14), in a disturbance it joins the set and starts the timer (R70, R72), and in RECOVERING an
earlier one starts the confirm timer again (R74). -/
theorem witness_reports_in_and_out_of_band :
    ([480, 520, 479, 521].map (figureInBand plan) = [true, true, false, false]) ∧
    (frequencyTaken (reporting 2 .normal ActiveSet.empty) plan 479).station.state = .ride ∧
    (frequencyTaken (reporting 1 .normal ActiveSet.empty) plan 479).station.state = .run ∧
    (frequencyTaken (reporting 2 .normal ActiveSet.empty) plan 480).classifier.outOfBand = 0 ∧
    (frequencyTaken (reporting 2 .disturbed ⟨true, false, false, false⟩) plan 521).classifier.frequencyTimer =
      some 1100960 ∧
    (frequencyTaken (reporting 0 .recovering ⟨true, false, false, false⟩) plan 521).classifier.confirm =
      some 1100960 ∧
    (phaseTaken (reporting 0 .outside ⟨false, false, false, true⟩) plan).classifier.active =
      ⟨false, true, false, true⟩ ∧
    (phaseTaken (reporting 0 .normal ActiveSet.empty) plan).station.state = .ride ∧
    (syncLossTaken (reporting 0 .disturbed ⟨true, false, false, false⟩) plan).classifier.state = .outside := by
  decide +kernel

theorem test_capture_breaks_a_run :
    (after .capture (tracking 1100321 (acquiring 1080100 [20020]))).tracker.acquired = 0 ∧
    (after .capture (tracking 1100320 (acquiring 1080100 [20020]))).tracker.acquired = 2 := by decide +kernel

theorem witness_fourth_interval :
    beforeLock.port.config = some plan ∧ configurationInRange plan = true ∧
    beforeLock.tracker.state = .acquiring ∧ beforeLock.tracker.acquired = 3 ∧
    beforeLock.tracker.previous = some 1080100 ∧ plausibleInterval plan (beforeLock.time - 1080100).toNat ∧
    (∀ x ∈ beforeLock.tracker.intervals, plausibleInterval plan x) ∧ beforeLock.tracker.intervals.length = 3 ∧
    (∀ last, beforeLock.tracker.intervals.getLast? = some last →
      100 * (max (beforeLock.time - 1080100).toNat last - min (beforeLock.time - 1080100).toNat last) ≤
        nominalMicros plan) ∧
    20020 = (beforeLock.tracker.intervals ++ [(beforeLock.time - 1080100).toNat]).sum / 4 := by
  refine ⟨rfl, test_plan_is_in_range, rfl, rfl, rfl, ?_, ?_, rfl, ?_, rfl⟩
  · unfold plausibleInterval
    decide
  · unfold plausibleInterval
    decide +kernel
  · exact forall_of_some (a := 19990) rfl (by decide +kernel)

/-- Section 2.6: c5 locks with P, f, the deadline, and sector 0 at 1,100,954; c6 is 7 tenths of a degree late, pulls
the anchor by 10 and puts sector 0 at 1,120,984. -/
theorem test_captures_of_section_2_6 :
    (after .capture beforeLock).tracker.period = 20020 ∧ (after .capture beforeLock).tracker.figure = 499 ∧
    (after .capture beforeLock).tracker.deadline = some 1125145 ∧
    (after .capture beforeLock).tracker.next = some ⟨1100954, 0, 0⟩ ∧
    (after .capture beforeC6).tracker.anchor = some 1120150 ∧ (after .capture beforeC6).tracker.period = 20030 ∧
    (after .capture beforeC6).tracker.next = some ⟨1120984, 0, 0⟩ ∧
    (after .capture beforeC6).tracker.deadline = some 1145187 := by decide +kernel

/-- Section 2.6, c6, and captures at the edges of the three bands: errors of 30, 31, 150 and 151. -/
theorem witness_locked_capture :
    beforeC6.port.config = some plan ∧ beforeC6.tracker.state = .locked ∧
    beforeC6.tracker.previous = some 1100120 ∧ plausibleInterval plan (beforeC6.time - 1100120).toNat ∧
    beforeC6.tracker.anchor = some 1100120 ∧ beforeC6.tracker.intervals.length = 4 ∧
    (∀ x ∈ beforeC6.tracker.intervals, plausibleInterval plan x) ∧ beforeC6.station.StackFits ∧
    0 < beforeC6.tracker.period ∧ 20030 = ((beforeC6.tracker.intervals ++ [20060]).drop 1).sum / 4 ∧
    (40 : Int) = (beforeC6.time - (1100120 + BitVec.ofNat 32 beforeC6.tracker.period)).toInt ∧
    (7 : Int) = ((40 : Int) * 3600).tdiv beforeC6.tracker.period ∧
    ((167 : Int) * 3600).tdiv 20020 = 30 ∧ ((173 : Int) * 3600).tdiv 20020 = 31 ∧
    ((-835 : Int) * 3600).tdiv 20020 = -150 ∧ ((840 : Int) * 3600).tdiv 20020 = 151 := by
  unfold plausibleInterval
  decide +kernel

/-- The index a re-anchor leaves open (R41): m is 0 after index 5, and 1 when index 6 was issued already. -/
theorem witness_least_open :
    leastOpen plan 20030 30 (some (-1)) 0 ∧ leastOpen plan 20030 30 (some 0) 1 ∧ leastOpen plan 20020 0 none 0 ∧
    scheduled plan 20020 0 = 834 ∧ scheduled plan 20030 1 = 4172 := by
  refine ⟨⟨by decide, by decide, fun k h => absurd h (Nat.not_lt_zero k)⟩, ⟨by decide, by decide, ?_⟩,
    ⟨by decide, by decide, fun k h => absurd h (Nat.not_lt_zero k)⟩, by decide, by decide⟩
  intro k h
  obtain rfl : k = 0 := by omega
  exact .inr ⟨0, rfl, by decide⟩

/-- The deadline itself, and a nominal end of the sector before and after the loss. -/
theorem witness_loss_of_sync :
    runPart.port.config = some plan ∧ runPart.station.StackFits ∧ runPart.tracker.state = .locked ∧
    runPart.tracker.deadline = some 1125145 ∧ ((1125145 : Micros) - 1125145).toNat < 2 ^ 31 ∧
    runPart.sampler.mode = .tracked ∧ offPart.sampler.mode ≠ .tracked ∧
    runPart.sampler.sector = some ⟨1100954, 20020, 1⟩ ∧
    ((1125145 : Micros) - ((1100954 : Micros) + BitVec.ofNat 32 (nominalMicros plan / 6))).toNat < 2 ^ 31 ∧
    2 ^ 31 < ((1125145 : Micros) - ((1124000 : Micros) + BitVec.ofNat 32 (nominalMicros plan / 6))).toNat := by
  decide +kernel

/-- The part at its loss deadline. -/
def atDeadline : State := { runPart with time := 1125145 }

theorem test_loss_of_sync_blocks_the_station :
    (after .lossOfSync atDeadline).station.state = .blocked ∧
    (after .lossOfSync atDeadline).classifier.active = ⟨false, false, false, true⟩ ∧
    (after .lossOfSync atDeadline).gates.firings = [] ∧
    (after .lossOfSync atDeadline).tracker.period = 20020 ∧
    (after .lossOfSync { runPart with time := 1125144 }).station.state = .run := by decide +kernel

/-! ### Sampling Unit (section 3.5) -/

/-- The instant of sample 1, and samples 15 and 16 of a sector. -/
theorem witness_sample :
    runPart.sampler.sector = some ⟨1100954, 20020, 1⟩ ∧ 1 < 16 ∧ 15 < 16 ∧
    ((1101162 : Micros) - ((1100954 : Micros) + BitVec.ofNat 32 (1 * 20020 / 96))).toNat < 2 ^ 31 ∧
    ¬ ((1101161 : Micros) - ((1100954 : Micros) + BitVec.ofNat 32 (1 * 20020 / 96))).toNat < 2 ^ 31 := by
  decide +kernel

/-- The lowest conversion counts as -2047 (R47). -/
theorem test_sample_takes_the_lowest_conversion :
    (after (.sample ⟨0x800, 0x7FF, 0xFFF, 4095, 1, 25⟩)
      { runPart with time := 1101162 }).sampler.windowAB.getLast? = some (-2047) ∧
    (after (.sample ⟨0x800, 0x7FF, 0xFFF, 4095, 1, 25⟩)
      { runPart with time := 1101162 }).sampler.currentSum = 7206 := by decide +kernel

/-- Section 3.5: the sector that closes. -/
def closing : Sampler :=
  { runPart.sampler with
    sector := some ⟨1100954, 20020, 16⟩
    currentSum := 49766
    voltageSum := 48000
    sink := some 78 }

theorem test_figure_set_of_section_3_5 :
    closing.formFigures plan = ⟨1001, 997, 1000, 997, 11391, 439, some 78, 12000, 7200, 7200⟩ := by
  decide +kernel

/-- Section 8.8: C_volt of a figure of 700. -/
theorem test_capability_of_a_sag : capabilityVolt plan 700 = 5333 := by decide

/-- The chapter's order of the neighbours, and one in which the generator comes first. -/
def anyOrder : List Neighbour := [.generator, .controller, .overcurrent, .classifier, .overTemperature, .regulator]

/-- The part at its next boundary, the sector full. -/
def atBoundary : State :=
  { runPart with time := 1104290, sampler := closing, gates := { runPart.gates with firings := [] } }

/-- The part in OFF at its first free-running boundary. -/
def atFreeBoundary : State := { offPart with time := 3333 }

theorem witness_boundary_forms_the_figure_set :
    atBoundary.port.config = some plan ∧ configurationInRange plan = true ∧ atBoundary.sampler.Sound ∧
    atBoundary.sampler.sector = some ⟨1100954, 20020, 16⟩ ∧ atBoundary.tracker.state = .locked ∧
    atBoundary.tracker.next = some ⟨1104290, 1, 1⟩ ∧ atBoundary.tracker.anchor = some 1100120 ∧
    (atBoundary.time - 1104290).toNat < 2 ^ 31 ∧
    atFreeBoundary.port.config = some plan ∧ atFreeBoundary.sampler.Sound ∧
    atFreeBoundary.sampler.sector = some ⟨0, 20000, 1⟩ ∧ atFreeBoundary.sampler.mode = .free ∧
    atFreeBoundary.sampler.freeTimer = some 3333 ∧ (atFreeBoundary.time - 3333).toNat < 2 ^ 31 := by
  refine ⟨rfl, test_plan_is_in_range, ?_, rfl, rfl, rfl, rfl, by decide, rfl, ?_, rfl, rfl, rfl, by decide⟩ <;>
    unfold Sampler.Sound WindowSound <;> and_intros <;> decide +kernel

/-- A quiet boundary in RUN. -/
theorem witness_quiet_boundary :
    atBoundary.port.config = some plan ∧ atBoundary.tracker.state = .locked ∧
    atBoundary.tracker.next = some ⟨1104290, 1, 1⟩ ∧ (atBoundary.time - 1104290).toNat < 2 ^ 31 ∧ 1 < 6 ∧
    atBoundary.station.state = .run ∧ atBoundary.classifier.state = .normal ∧
    atBoundary.gates.mode = .enabled ∧ atBoundary.gates.latched = some 161 ∧ atBoundary.gates.firings = [] ∧
    plan.voltSag ≤ (after (.sectorBoundary still anyOrder) atBoundary).sampler.figures.voltage ∧
    (after (.sectorBoundary still anyOrder) atBoundary).sampler.overcurrent = false ∧
    (after (.sectorBoundary still anyOrder) atBoundary).sampler.overTemperature = false ∧
    (-4191 : Int) = min (max ((min atBoundary.allocator.setpoint
      (after (.sectorBoundary still anyOrder) atBoundary).sampler.figures.capability : Nat) -
      ((after (.sectorBoundary still anyOrder) atBoundary).sampler.figures.current : Int)) (-32767)) 32767 := by
  decide +kernel

theorem quiet_boundary_answers :
    exec (.sectorBoundary still anyOrder) atBoundary =
      .next (after (.sectorBoundary still anyOrder) atBoundary) := rfl

/-- At C = 7,200 the setpoint is clamped at once, and the sixth set converts the next temperature, which stands in no
figure yet (R51, R56, R148); the next boundary is index 2; thyristor 2 is due at 16.1 degrees: 161 × 20,020 / 3600 is
895 (R162). -/
theorem test_quiet_boundary :
    (after (.sectorBoundary still anyOrder) atBoundary).allocator.setpoint = 7200 ∧
    (after (.sectorBoundary still anyOrder) atBoundary).sampler.sink = some 25 ∧
    (after (.sectorBoundary still anyOrder) atBoundary).sampler.figures.sink = some 78 ∧
    (after (.sectorBoundary still anyOrder) atBoundary).sampler.cycle = 0 ∧
    (after (.sectorBoundary still anyOrder) atBoundary).tracker.next = some ⟨1107627, 2, 2⟩ ∧
    (after (.sectorBoundary still anyOrder) atBoundary).gates.firings = [⟨1, 1105185, 1104290⟩] ∧
    (after (.sectorBoundary still anyOrder) atBoundary).gates.latched =
      some (after (.sectorBoundary still anyOrder) atBoundary).regulator.lastAngle := by decide +kernel

/-- The part at its boundary with some firings pending and pulses given on outputs 4 and 5. -/
def crowded (firings : List PendingFiring) : State :=
  { atBoundary with
    gates :=
      { runPart.gates with
        firings := firings, outputs := #v[none, none, none, some 1104800, some 1104700, none] } }

/-- Three firings of which the second was scheduled first, and two. -/
def three : List PendingFiring := [⟨3, 1104400, 1100954⟩, ⟨4, 1104500, 1097617⟩, ⟨5, 1105300, 1100954⟩]

/-- A full list: its oldest entry fires now, with a later pulse end kept on output 4, and the new one stands at its place
by fire time; a list of two takes it without firing (R162, R163). -/
theorem witness_full_firing_list :
    (crowded three).gates.firings.length = 3 ∧ (crowded (three.take 2)).gates.firings.length < 3 ∧
    three = [⟨3, 1104400, 1100954⟩] ++ ⟨4, 1104500, 1097617⟩ :: [⟨5, 1105300, 1100954⟩] ∧
    (∀ g ∈ [(⟨3, 1104400, 1100954⟩ : PendingFiring)] ++ [⟨5, 1105300, 1100954⟩],
      g.scheduledAt ≠ 1097617 ∧ (g.scheduledAt - 1097617).toNat < 2 ^ 31) ∧
    (after (.sectorBoundary still anyOrder) (crowded three)).gates.firings =
      [⟨3, 1104400, 1100954⟩, ⟨1, 1105185, 1104290⟩, ⟨5, 1105300, 1100954⟩] ∧
    (after (.sectorBoundary still anyOrder) (crowded three)).gates.outputs =
      #v[none, none, none, some 1104800, some 1104790, none] ∧
    (after (.sectorBoundary still anyOrder) (crowded (three.take 2))).gates.firings.length = 3 := by
  decide +kernel

/-- A part at its next boundary, the sector full. -/
def bounded (s : State) : State := { s with time := 1104290, sampler := closing }

/-- Orders in which the controller acts between the generator and the regulator, before both, and after both. -/
def early : List Neighbour := [.controller, .classifier, .regulator, .overcurrent, .overTemperature, .generator]

def late : List Neighbour := [.regulator, .generator, .classifier, .overcurrent, .overTemperature, .controller]

/-- A station that starts at a boundary, for each place of the controller (R10, R161, R167): behind the generator
the entry angle stays latched, though the regulator acts after it. -/
theorem witness_start_at_a_boundary :
    (bounded (partIn .syncing)).station.StackFits ∧ (bounded (partIn .syncing)).GatesSound ∧
    (∀ o ∈ [anyOrder, early, late], wholeOrder o = true) ∧
    (bounded (partIn .syncing)).classifier.state = .normal ∧
    actsBefore anyOrder .generator .controller ∧ actsBefore early .controller .generator ∧
    actsBefore late .regulator .controller ∧ actsBefore early .controller .regulator ∧
    (after (.sectorBoundary still late) (bounded (partIn .syncing))).regulator = ⟨0, 1500, .high⟩ ∧
    (∀ o ∈ [anyOrder, early, late],
      (after (.sectorBoundary still o) (bounded (partIn .syncing))).station.state = .starting) ∧
    (after (.sectorBoundary still anyOrder) (bounded (partIn .syncing))).gates.latched = some 1500 ∧
    (after (.sectorBoundary still anyOrder) (bounded (partIn .syncing))).gates.firings = [] ∧
    (after (.sectorBoundary still early) (bounded (partIn .syncing))).gates.firings =
      [⟨1, 1104290 + 8341, 1104290⟩] ∧
    (after (.sectorBoundary still late) (bounded (partIn .syncing))).gates.firings = [] := by
  decide +kernel

/-- The worked case of section 9.2, and the three updates of section 9.8 that follow it. -/
theorem test_regulator_updates_of_chapter_9 :
    (⟨100000, 300, .none⟩ : Regulator).update plan 11555 11400 = ⟨102480, 161, .none⟩ ∧
    (⟨102480, 161, .none⟩ : Regulator).update plan 5333 11400 = ⟨5408, 1500, .high⟩ ∧
    (⟨5408, 1500, .high⟩ : Regulator).update plan 5333 6900 = ⟨5408, 970, .none⟩ ∧
    (⟨5408, 970, .none⟩ : Regulator).update plan 5333 5200 = ⟨7536, 538, .none⟩ := by decide +kernel

/-! ### Disturbances at the station -/

/-- The part at a boundary whose windows show the figure of a sag. -/
def sagging (amplitude : Int) : State :=
  { atBoundary with sampler := { closing with windowBC := List.replicate 95 0 ++ [amplitude] } }

/-- Figures of 849, 700 and 699: the edges of V_sag and of the first envelope point. -/
theorem witness_sag_in_run :
    (sagging 1260).port.config = some plan ∧ plan.envelope.head? = some ⟨0, 700⟩ ∧
    (sagging 1260).tracker.state = .locked ∧ (sagging 1260).tracker.next = some ⟨1104290, 1, 1⟩ ∧
    ((sagging 1260).time - 1104290).toNat < 2 ^ 31 ∧ (sagging 1260).station.state = .run ∧
    (sagging 1260).station.StackFits ∧ (sagging 1260).classifier.state = .normal ∧
    (after (.sectorBoundary still anyOrder) (sagging 1529)).sampler.figures.voltage = 849 ∧
    (after (.sectorBoundary still anyOrder) (sagging 1260)).sampler.figures.voltage = 700 ∧
    (after (.sectorBoundary still anyOrder) (sagging 1259)).sampler.figures.voltage = 699 ∧
    (after (.sectorBoundary still anyOrder) (sagging 1260)).sampler.overcurrent = false ∧
    (after (.sectorBoundary still anyOrder) (sagging 1260)).sampler.overTemperature = false := by
  decide +kernel

/-- Section 8.8: C falls to 5,333, the ALERT ONSET carries 4,667, and the record holds the setpoint before the
clamp. -/
theorem test_sag_rides_through :
    (after (.sectorBoundary still anyOrder) (sagging 1260)).line.alertQueue =
      [⟨.alert ⟨.onset, 4, 700, 5333, 4667⟩, 1104290⟩] ∧
    (after (.sectorBoundary still anyOrder) (sagging 1260)).station.stack = [⟨.sag, 100000, 10000⟩] ∧
    (after (.sectorBoundary still anyOrder) (sagging 1529)).station.state = .ride ∧
    (after (.sectorBoundary still anyOrder) (sagging 1530)).station.state = .run ∧
    (after (.sectorBoundary still anyOrder) (sagging 1259)).station.state = .blocked := by decide +kernel

theorem witness_boundary_comes :
    boundaryComes atBoundary (.sectorBoundary still anyOrder) anyOrder true ∧
    boundaryComes atFreeBoundary (.freeRunningBoundary still anyOrder) anyOrder false :=
  ⟨.inl ⟨rfl, still, ⟨1104290, 1, 1⟩, rfl, rfl, rfl, by decide⟩,
    .inr ⟨rfl, still, 3333, rfl, rfl, rfl, by decide⟩⟩

/-- The part after a boundary with a full sector of one current conversion and a temperature, in an order. -/
def boundingBy (order : List Neighbour) (s : State) (current : Nat) (sink : Int) : State :=
  after (.sectorBoundary still order)
    { bounded s with sampler := { closing with currentSum := 16 * current, sink := some sink } }

def bounding (s : State) (current : Nat) (sink : Int) : State := boundingBy anyOrder s current sink

/-- A station at a boundary that shows a sag of 849, in an order. -/
def saggedBy (order : List Neighbour) (s : State) : State :=
  after (.sectorBoundary still order)
    { bounded s with sampler := { closing with windowBC := List.replicate 95 0 ++ [1529] } }

def sagged (s : State) : State := saggedBy anyOrder s

/-- An order in which the regulator acts between the controller and the classifier. -/
def between : List Neighbour := [.controller, .regulator, .classifier, .overcurrent, .overTemperature, .generator]

/-- SYNCING with the start condition at a sag: behind the classifier it stays, before it the station starts and is back,
with the entry angle or the update's (R10, R12, R157). -/
theorem witness_sag_in_syncing :
    standsAgainst plan (saggedBy late (partIn .syncing)).sampler .classifier ∧ wholeOrder between = true ∧
    actsBefore late .classifier .controller ∧ actsBefore early .controller .classifier ∧
    (saggedBy late (partIn .syncing)).gates = (partIn .syncing).gates ∧
    (saggedBy late (partIn .syncing)).regulator = (partIn .syncing).regulator ∧
    (∀ o ∈ [anyOrder, early, late, between],
      (saggedBy o (partIn .syncing)).station.state = .syncing ∧
      (saggedBy o (partIn .syncing)).gates.mode = .inhibited ∧
      (saggedBy o (partIn .syncing)).classifier.state = .disturbed) ∧
    (saggedBy early (partIn .syncing)).regulator = ⟨0, 1500, .high⟩ ∧
    (saggedBy early (partIn .syncing)).gates.latched = some 1500 ∧
    (saggedBy between (partIn .syncing)).regulator =
      updatedRegulator plan ⟨0, 1500, .high⟩ 0 (saggedBy between (partIn .syncing)).sampler.figures.current := by
  unfold standsAgainst
  and_intros
  · exact .inl ⟨rfl, by decide +kernel⟩
  all_goals decide +kernel

/-- SYNCING with the start condition at an overcurrent: tripped out of STARTING when the controller acts before, out of
SYNCING otherwise. -/
theorem witness_trip_in_syncing :
    standsAgainst plan (bounding (partIn .syncing) 3550 25).sampler .overcurrent ∧
    (bounding (partIn .syncing) 3550 25).fault.picture.map TripPicture.stateBefore = some .starting ∧
    (boundingBy late (partIn .syncing) 3550 25).fault.picture.map TripPicture.stateBefore = some .syncing ∧
    (bounding (partIn .syncing) 3550 25).gates.mode = .inhibited := by
  unfold standsAgainst
  and_intros
  · exact .inr (.inl ⟨rfl, by decide +kernel⟩)
  all_goals decide +kernel

/-- The record of a sag in RUN holds the integrator before the update behind the classifier, and the one after it when
the regulator acts first (R157). -/
theorem witness_integrator_of_the_record :
    actsBefore anyOrder .classifier .regulator ∧ actsBefore late .regulator .classifier ∧
    (saggedBy anyOrder runPart).station.stack.map ContextRecord.integrator = [100000] ∧
    (saggedBy late runPart).station.stack.map ContextRecord.integrator =
      [(saggedBy late runPart).regulator.integrator] ∧
    (saggedBy late runPart).regulator.integrator ≠ 100000 := by
  decide +kernel

/-- A second disturbance on one record rides, on two it escalates to STANDBY; an onset in STARTING goes back to SYNCING
(R12, R18, R19). -/
theorem witness_onsets_by_station :
    (heldIn .restart).station.StackFits ∧ (heldIn .restart).station.stack.length = 1 ∧
    (sagged (heldIn .restart)).station.stack.length = 2 ∧ (sagged (heldIn .restart)).station.state = .ride ∧
    (sagged { heldIn .restart with
      station := { (heldIn .restart).station with
        stack := [⟨.sag, 0, 1⟩, ⟨.phase, 0, 1⟩] } }).station.standbyOrigin = some .escalation ∧
    (partIn .starting).station.StackFits ∧ (sagged (partIn .starting)).station.state = .syncing := by
  decide +kernel

/-- STOPPING ends at a boundary with SP at 0 and I_meas at I_zero, 58 of 60, and not above it at 62 (R23). -/
theorem witness_stopping_ends_at_a_boundary :
    (∀ d ∈ [Destination.off, .standby],
      (bounding { stoppingPart d none with allocator := { (partIn .run).allocator with setpoint := 0 } } 16
        25).station.state ≠ .stopping ∧
      (bounding { stoppingPart d none with allocator := { (partIn .run).allocator with setpoint := 0 } } 17
        25).station.state = .stopping) := by
  decide +kernel

/-- Currents of 13,000 and 13,003 at I_oc, temperatures of 89 and 90 at T_max, both at once, and a part that is TRIPPED
(R57, R58, R181). -/
theorem witness_trips_at_a_boundary :
    runPart.FaultSound ∧ (trippedPart .overTemperature).FaultSound ∧
    (bounding runPart 3549 25).sampler.overcurrent = false ∧ (bounding runPart 3549 89).station.state = .run ∧
    (bounding runPart 3550 25).sampler.overcurrent = true ∧ (bounding runPart 3550 25).station.state = .tripped ∧
    (bounding runPart 3549 90).fault.picture.map TripPicture.cause = some .overTemperature ∧
    (bounding runPart 3549 90).fault.picture.bind TripPicture.sink = some 90 ∧
    (bounding runPart 3550 90).fault.laterTrips = 1 ∧
    (bounding (trippedPart .overTemperature) 3550 25).fault.laterTrips = 255 := by
  decide +kernel

/-- A part in OFF whose LEAVE waits, and one with four frames waiting. -/
def leaving : State :=
  { partIn .off with line := { runPart.line with alertQueue := [⟨.leave, 1100000⟩] } }

def crammed : State :=
  { runPart with line := { runPart.line with alertQueue := List.replicate 4 ⟨.leave, 1100000⟩ } }

/-- ALERT TRIP and event TRIP of a figure set: from RUN, from OFF with the LEAVE taken out, and dropped at a full queue
(R8, R26, R83, R85). -/
theorem witness_alert_trip_at_a_boundary :
    (bounding runPart 3550 25).line.alertQueue = [⟨.alert ⟨.trip, 9, 997, 12000, 10000⟩, 1104290⟩] ∧
    (bounding runPart 3550 25).events.counters[9] = 1 ∧
    leaving.station.StackFits ∧ leaving.FaultSound ∧
    (bounding leaving 3550 25).line.alertQueue = [⟨.alert ⟨.trip, 9, 997, 12000, 10000⟩, 1104290⟩] ∧
    (bounding leaving 3550 25).line.nextSequence = 0 ∧ (bounding leaving 3550 25).line.firstFlag = true ∧
    (bounding crammed 3550 25).line.alertQueue = crammed.line.alertQueue ∧
    (bounding crammed 3550 25).events.counters[18] = 1 ∧ (bounding crammed 3550 25).events.counters[9] = 1 := by
  decide +kernel

/-- The classifier of a disturbed part with the tracker LOCKED and the figure in band. -/
def disturbedFor (st : ClassifierState) (d : Nat) (s : State) : State :=
  { s with
    classifier :=
      { s.classifier with
        state := st, active := ⟨true, false, false, false⟩, onset := some 900000, elapsed := some d
        latestFigure := some 480 } }

/-- The envelope's edges at 499 and 500 ms, and recovery at V_rec (R66, R71, R73, R74). -/
theorem witness_figures_in_a_disturbance :
    requiredAt plan 499 = 700 ∧ requiredAt plan 500 = 800 ∧
    (figureTaken (disturbedFor .disturbed 499 (heldIn .ride)) plan 700 0).classifier.state = .disturbed ∧
    (figureTaken (disturbedFor .disturbed 500 (heldIn .ride)) plan 799 0).station.state = .blocked ∧
    (figureTaken (disturbedFor .disturbed 500 (heldIn .ride)) plan 899 0).classifier.state = .disturbed ∧
    (figureTaken (disturbedFor .outside 500 (heldIn .ride)) plan 900 0).classifier.state = .recovering ∧
    (figureTaken (disturbedFor .recovering 500 (heldIn .ride)) plan 899 0).classifier.confirm = some 1100960 ∧
    (figureTaken (disturbedFor .recovering 500 (heldIn .ride)) plan 849 0).classifier.elapsed = some 0 := by
  decide +kernel

/-- A sag in progress at a boundary. -/
def sagAtBoundary (s : State) : State := disturbedFor .disturbed 100 (bounded s)

/-- The established firing states, on a quiet grid and with a sag in progress: the angle of the boundary before fires
thyristor 2 at 895 after it, and the new angle is latched (R154, R161, R162). -/
theorem witness_boundary_in_every_firing_state :
    (∀ s ∈ [partIn .starting, runPart, heldIn .ride, heldIn .restart, stoppingPart .standby (some .request)],
      s.station.state.firing = true ∧ s.gates.mode = .enabled ∧ s.gates.latched = some 161 ∧
      ∀ u ∈ [bounded s, sagAtBoundary s],
        u.station.state = s.station.state ∧ u.tracker.next = some ⟨1104290, 1, 1⟩ ∧
        (after (.sectorBoundary still anyOrder) u).station.state.firing = true ∧
        (after (.sectorBoundary still anyOrder) u).gates.firings = [⟨0, 1101849, 1100954⟩, ⟨1, 1105185, 1104290⟩] ∧
        (after (.sectorBoundary still anyOrder) u).gates.latched = some 1500) := by
  decide +kernel

/-- An onset in STARTING, a block in RUN, a trip, and the end of STOPPING. -/
theorem witness_boundary_that_ends_the_firing :
    (partIn .starting).station.state.firing = true ∧ (stoppingPart .off none).station.state.firing = true ∧
    (∀ t ∈ [sagged (partIn .starting), after (.sectorBoundary still anyOrder) (sagging 1259),
        bounding runPart 3550 25,
        bounding { stoppingPart .off none with allocator := { (partIn .run).allocator with setpoint := 0 } } 16 25],
      t.station.state.firing = false ∧ t.gates.mode = .inhibited ∧ t.gates.firings = []) := by
  decide +kernel

/-- A firing state with the generator INHIBITED, and states that do not fire. -/
theorem witness_boundary_without_a_firing :
    (bounding { runPart with gates := blockedGates runPart.gates } 3037 25).station.state.firing = true ∧
    (bounding { runPart with gates := blockedGates runPart.gates } 3037 25).gates.firings = [] ∧
    (∀ s ∈ [partIn .off, partIn .syncing, heldIn .blocked, standbyPart, trippedPart .overTemperature],
      (sagAtBoundary s).GatesSound ∧ (sagAtBoundary s).station.state.firing = false ∧
      (sagAtBoundary s).classifier.state ≠ .normal) ∧
    (bounded standbyPart).GatesSound ∧ (bounded standbyPart).station.state ≠ .syncing := by
  decide +kernel

/-- A riding station at a free-running boundary. -/
def ridingFree : State :=
  let s := sagAtBoundary (heldIn .ride)
  { s with sampler := { s.sampler with mode := .free, freeTimer := some 1104290 } }

theorem witness_free_boundary_in_a_firing_state :
    ridingFree.port.config ≠ none ∧ ridingFree.station.state.firing = true ∧
    (after (.freeRunningBoundary still anyOrder) ridingFree).station.state = .ride ∧
    (after (.freeRunningBoundary still anyOrder) ridingFree).sampler.freeTimer = some 1107623 := by decide +kernel

/-- A part in FREE timing at its free-running boundary. -/
def running (s : State) : State :=
  let free := sagAtBoundary s
  { free with
    tracker := { free.tracker with state := .unlocked, next := none }
    sampler := { free.sampler with mode := .free, freeTimer := some 1104290 } }

/-- States that do not fire, and a riding station that blocks, at a free-running boundary. -/
theorem witness_free_boundary_without_a_firing :
    (∀ s ∈ [partIn .off, partIn .syncing, heldIn .blocked, standbyPart, trippedPart .overTemperature],
      (running s).GatesSound ∧ (running s).station.state.firing = false ∧ (running s).tracker.state ≠ .locked ∧
      (after (.freeRunningBoundary still anyOrder) (running s)).gates = s.gates) ∧
    (after (.freeRunningBoundary still anyOrder)
      { ridingFree with sampler := { ridingFree.sampler with windowBC := [1] } }).station.state = .blocked := by
  decide +kernel

/-- A station with the classifier in RECOVERING since an instant. -/
def recovering (s : State) (started : Micros) : State :=
  { s with
    classifier :=
      { s.classifier with
        state := .recovering
        active := ⟨true, false, false, false⟩
        onset := some 900000
        elapsed := some 100
        confirm := some started } }

/-- T_rec of 100 ms reached to the microsecond, for each kind of station. -/
theorem witness_recovery :
    (∀ st ∈ [StationState.ride, .blocked],
      (recovering (heldIn st) 1000960).station.StackFits ∧
        (recovering (heldIn st) 1000960).station.stack.getLast? = some ⟨.sag, 102480, 10000⟩) ∧
    (recovering (partIn .syncing) 1000960).classifier.state = .recovering ∧
    (recovering (partIn .syncing) 1000960).classifier.confirm = some 1000960 ∧
    plan.tRecovery * 1000 ≤ ((1100960 : Micros) - 1000960).toNat ∧
    (recovering (partIn .syncing) 1000960).tracker.state = .locked ∧
    (recovering standbyPart 1000960).station.state = .standby := by decide +kernel

/-- The saved integrator gives the rest angle 600 - 400 (R153). -/
theorem test_recovery_restarts :
    (after .recoveryConfirmTimerExpiry (recovering (heldIn .blocked) 1000960)).station.state = .restart ∧
    (after .recoveryConfirmTimerExpiry (recovering (heldIn .blocked) 1000960)).regulator = ⟨102480, 200, .none⟩ ∧
    (after .recoveryConfirmTimerExpiry (recovering (heldIn .blocked) 1000960)).allocator.setpoint = 11391 ∧
    (after .recoveryConfirmTimerExpiry (recovering (heldIn .blocked) 1000961)).station.state = .blocked := by
  decide +kernel

/-- A station with the classifier in DISTURBED and its frequency timer running. -/
def offFrequency (s : State) (started : Micros) : State :=
  { s with
    time := 4000000
    classifier :=
      { s.classifier with
        state := .disturbed
        active := ⟨false, false, true, false⟩
        onset := some started
        elapsed := some 500
        frequencyTimer := some started } }

theorem witness_frequency_timer :
    (offFrequency (heldIn .ride) 2000000).port.config = some plan ∧
    (offFrequency (heldIn .ride) 2000000).classifier.state = .disturbed ∧
    (offFrequency (heldIn .ride) 2000000).classifier.frequencyTimer = some 2000000 ∧
    plan.tFrequencyMax * 1000 ≤ ((4000000 : Micros) - 2000000).toNat ∧
    (∀ st ∈ [StationState.off, .syncing, .standby, .stopping],
      (offFrequency (partIn st) 2000000).station.StackFits ∧
        (offFrequency (partIn st) 2000000).station.state = st) ∧
    (∀ st ∈ [StationState.ride, .blocked],
      (offFrequency (heldIn st) 2000000).station.StackFits ∧
        (offFrequency (heldIn st) 2000000).station.state = st) ∧
    (offFrequency (trippedPart .overTemperature) 2000000).station.state = .tripped := by decide +kernel

theorem test_frequency_timer_blocks :
    (after .frequencyTimerExpiry (offFrequency (heldIn .ride) 2000000)).station.state = .blocked ∧
    (after .frequencyTimerExpiry (offFrequency (heldIn .ride) 2000001)).station.state = .ride := by decide +kernel

/-- T_block_max of 3 s and T_low of 5 s, reached exactly. -/
theorem witness_controller_timers :
    (heldIn .blocked).station.blockedSince = some 1000000 ∧
    plan.tBlockMax * 1000 ≤ ((4000000 : Micros) - 1000000).toNat ∧
    runPart.station.state = .run ∧ runPart.station.lowLoadRunning = true ∧ plan.tLow ≤ 5000 := by decide +kernel

theorem test_timers_at_their_ends :
    (after .blockedTimerExpiry { heldIn .blocked with time := 4000000 }).station.standbyOrigin =
      some .blockTimeout ∧
    (after .blockedTimerExpiry { heldIn .blocked with time := 3999999 }).station.state = .blocked ∧
    (after .lowLoadTimerExpiry
      { runPart with station := { runPart.station with lowLoadMs := 5000 } }).station.destination =
      some .standby := by decide +kernel

/-! ### Cover Allocator (section 8.8) -/

/-- A part whose share timer has just expired. -/
def sharing (s : State) : State := { s with time := 1105000 }

/-- The states of the statement on share updates, each with its own shortfall. -/
theorem witness_share_update :
    (sharing runPart).port.config = some plan ∧ (sharing runPart).allocator.shareTimer = some 1105000 ∧
    ((sharing runPart).time - 1105000).toNat < 2 ^ 31 ∧ (sharing runPart).allocator.steps = some ⟨50, 100, 100⟩ ∧
    10000 = demandAtUpdate (sharing runPart).allocator ∧ (sharing runPart).station.state = .run ∧
    0 = 10000 - (sharing runPart).allocator.latestC ∧
    2000 = min (sharing runPart).allocator.latestC (10000 + plan.coverLimit) - 10000 ∧
    (heldIn .ride).station.state = .ride ∧ 0 = 10000 - min (heldIn .ride).allocator.setpoint 10000 ∧
    (heldIn .blocked).station.state = .blocked ∧ 10000 = 10000 - min (heldIn .blocked).allocator.setpoint 10000 ∧
    standbyPart.station.standbyOrigin ≠ some .protection ∧
    (partIn .syncing).station.state = .syncing ∧ (trippedPart .overTemperature).station.state = .tripped := by
  decide +kernel

/-- An update that carries the low-load timer to T_low: the station stays in RUN and LOW_LOAD_TIMER_EXPIRY is due
(assumption 9). -/
theorem witness_low_load_at_the_update :
    (after .shareUpdate
      { sharing runPart with
        peers := []
        allocator := { runPart.allocator with latestI := 0, lastUpdate := some (1100000, 1095) }
        station := { runPart.station with lowLoadMs := 4995 } }).station =
      { runPart.station with lowLoadMs := 5000 } := by decide +kernel

/-- Section 8.8: S_tot 4,667 and H_tot 6,000 give c = 1,555, T = 11,555 and the first step to 10,050. -/
theorem test_share_update_shares_out_the_shortfall :
    (after .shareUpdate (sharing runPart)).allocator.shortfallSum = 4667 ∧
    (after .shareUpdate (sharing runPart)).allocator.headroomSum = 6000 ∧
    (after .shareUpdate (sharing runPart)).allocator.cover = 1555 ∧
    (after .shareUpdate (sharing runPart)).allocator.target = 11555 ∧
    (after .shareUpdate (sharing runPart)).allocator.setpoint = 10050 ∧
    (after .shareUpdate (sharing runPart)).allocator.groupDelivered = 36724 := by decide +kernel

/-- A part with four frames in its alert queue. -/
def full (s : State) : State :=
  { s with line := { s.line with alertQueue := List.replicate 4 ⟨.leave, s.time⟩, highWater := 4 } }

/-- A part in RESTART or STARTING with its setpoint a step below the goal of 10,000. -/
def ramping (s : State) (setpoint : Nat) : State :=
  sharing { s with allocator := { s.allocator with setpoint := setpoint } }

theorem witness_ramps :
    (∀ s ∈ [partIn .off, ramping (partIn .starting) 9950, ramping (partIn .starting) 9949,
        ramping (heldIn .restart) 9900, ramping (heldIn .restart) 9899, stoppingPart .off none,
        stoppingPart .standby (some .lowLoad)],
      s.station.StackFits ∧ s.FiguresShared ∧ s.port.config = some plan ∧
        s.allocator.shareTimer = some 1105000 ∧ s.allocator.steps = some ⟨50, 100, 100⟩ ∧
        10000 = min (demandAtUpdate s.allocator) s.allocator.latestC) ∧
    (heldIn .restart).station.stack.head? = some ⟨.sag, 102480, 10000⟩ ∧
    (heldIn .restart).line.alertQueue.length < 4 ∧ 4 ≤ (full (heldIn .restart)).line.alertQueue.length ∧
    (after .shareUpdate (full (ramping (heldIn .restart) 9900))).events.counters[18] = 1 ∧
    (after .shareUpdate (full (ramping (heldIn .restart) 9900))).station.state = .run := by decide +kernel

/-- A pending demand becomes D in the update of a RESTART, and the frame carries it (R134, R145). -/
theorem witness_ramp_with_a_pending_demand :
    demandAtUpdate { runPart.allocator with pendingDemand := some 9000 } = 9000 ∧
    ∀ t ∈ [after .shareUpdate (sharing { heldIn .restart with
        allocator := { runPart.allocator with pendingDemand := some 9000, setpoint := 5000 } })],
      t.allocator.demand = 9000 ∧ t.allocator.pendingDemand = none ∧ t.allocator.setpoint = 5100 ∧
      t.line.shareSlot = some ⟨6, 5, 997, 9000, 11391, 12000, 4000, 0, 0⟩ := by
  decide +kernel

theorem test_ramps_end_at_the_goal :
    (after .shareUpdate (ramping (partIn .starting) 9950)).station.state = .run ∧
    (after .shareUpdate (ramping (partIn .starting) 9949)).station.state = .starting ∧
    (after .shareUpdate (ramping (heldIn .restart) 9900)).station.state = .run ∧
    (after .shareUpdate (ramping (heldIn .restart) 9899)).station.state = .restart := by decide +kernel

/-- STOPPING at the last step, with I_meas at I_zero and one above it. -/
def lastStep (destination : Destination) (current : Nat) : State :=
  let s := ramping (stoppingPart destination (if destination = .off then none else some .lowLoad)) 100
  { s with
    sampler := { s.sampler with figures := { s.sampler.figures with current := current } }
    allocator := { s.allocator with latestI := current } }

theorem test_stopping_ends_at_zero :
    (after .shareUpdate (lastStep .off 60)).station.state = .off ∧
    (after .shareUpdate (lastStep .off 61)).station.state = .stopping ∧
    (after .shareUpdate (lastStep .standby 60)).station.standbyOrigin = some .lowLoad ∧
    min ((lastStep .off 60).allocator.setpoint - 100) (lastStep .off 60).allocator.latestC = 0 := by
  decide +kernel

/-! ### Protection inputs and trips -/

/-- Every edge with and without its match, and every group of station states. -/
theorem witness_protection_edge :
    edgeFound .rising false true ∧ ¬ edgeFound .rising true false ∧ edgeFound .falling true false ∧
    edgeFound .both false true ∧ edgeFound .both true false ∧ ¬ edgeFound .off false true ∧
    ¬ edgeFound .both true true ∧
    runPart.protection[(0 : Fin 4)].action = .trip ∧ runPart.protection[(1 : Fin 4)].action = .standby ∧
    runPart.protection[(2 : Fin 4)].action = .report ∧ runPart.fault.picture = none ∧
    (partIn .off).fault.picture = none ∧
    (trippedPart .overTemperature).station.state = .tripped := by
  simp only [edgeFound]
  decide +kernel

theorem test_protection_trip :
    (after (.protectionEdge 0 true) runPart).station.state = .tripped ∧
    (after (.protectionEdge 0 true) runPart).fault.picture = some (pictureOf runPart (.protection 0)) ∧
    (after (.protectionEdge 0 true) runPart).events.attnU = true ∧
    (after (.protectionEdge 0 true) (full runPart)).station.state = .tripped ∧
    (after (.protectionEdge 0 true) (full runPart)).line = (full runPart).line ∧
    (after (.protectionEdge 0 true) (full runPart)).events.counters[18] = 1 ∧
    (after (.protectionEdge 0 true) (trippedPart .overTemperature)).fault.laterTrips = 255 := by decide +kernel

/-- A contact that changes and returns within one microsecond acts once and is sampled again in the next, also in a part
without a configuration (R170). -/
theorem witness_one_sample_in_a_microsecond :
    runPart.protection[(2 : Fin 4)].sampled = false ∧
    (after (.protectionEdge 2 true) runPart).protection[(2 : Fin 4)] = ⟨.both, .report, true, true⟩ ∧
    (after (.protectionEdge 2 false) (after (.protectionEdge 2 true) runPart)).events.counters[22] = 1 ∧
    ((after (.protectionEdge 2 true) runPart).elapse 1).protection[(2 : Fin 4)] = ⟨.both, .report, true, false⟩ ∧
    (after (.protectionEdge 2 false)
      ((after (.protectionEdge 2 true) runPart).elapse 1)).events.counters[22] = 2 ∧
    ((after (.protectionEdge 3 true) State.reset).elapse 1).protection[(3 : Fin 4)] = ⟨.off, .report, true, false⟩ := by
  decide +kernel

theorem test_protection_standby_carries_the_demand :
    (after (.protectionEdge 1 false) ((sampledInput runPart 1 true).elapse 1)).line.alertQueue =
      [⟨.alert ⟨.standby, 8, 997, 12000, 10000⟩, 1100961⟩] ∧
    (after (.protectionEdge 2 true) runPart).events.counters[22] = 1 := by decide +kernel

/-! ### Gate pulses (section 9.8) -/

/-- Gates at 15,388 of section 9.8: the pulse of T3 stands on G3 and G2. -/
def atT4 : State :=
  { runPart with
    time := 15388
    gates :=
      { runPart.gates with
        firings := [⟨3, 15388, 10000⟩, ⟨4, 16321, 13333⟩]
        outputs := #v[none, some 15499, some 15499, none, none, none] } }

/-- Thyristor 1 and its neighbour 6, and a pulse end beyond the new one. -/
def atT1 : State :=
  { runPart with
    time := 894
    gates :=
      { runPart.gates with
        firings := [⟨0, 894, 0⟩]
        outputs := #v[some 1395, some 1000, none, none, none, none] } }

theorem witness_firing :
    atT4.port.config = some plan ∧ atT4.gates.firings = ⟨3, 15388, 10000⟩ :: [⟨4, 16321, 13333⟩] ∧
    (atT4.time - 15388).toNat < 2 ^ 31 ∧ atT1.gates.firings = [⟨0, 894, 0⟩] ∧
    atT1.gates.outputs[(0 : Fin 6)] = some 1395 ∧
    ((1395 : Micros) - ((894 : Micros) + BitVec.ofNat 32 plan.pulseWidth)).toNat < 2 ^ 31 ∧
    2 ^ 31 ≤ ((15499 : Micros) - ((15388 : Micros) + BitVec.ofNat 32 plan.pulseWidth)).toNat ∧
    (atT4.time - 15388).toNat < 2 ^ 31 ∧ 2 ^ 31 ≤ (atT4.time - 15499).toNat := by decide +kernel

theorem test_firing_gives_the_double_pulse :
    (after .firing atT4).gates.outputs = #v[none, some 15499, some 15888, some 15888, none, none] ∧
    (after .firing atT4).gates.firings = [⟨4, 16321, 13333⟩] ∧
    (after .firing atT1).gates.outputs = #v[some 1395, some 1000, none, none, none, some 1394] := by
  decide +kernel

theorem test_pulse_end_at_its_instant :
    (after (.pulseEnd 1) { atT4 with time := 15499 }).gates.outputs[(1 : Fin 6)] = none ∧
    (after (.pulseEnd 1) { atT4 with time := 15498 }).gates.outputs[(1 : Fin 6)] = some 15499 := by decide +kernel

/-! ### Share line -/

/-- A part with a frame under assembly. -/
def assembling (bytes : List Byte) : State :=
  { runPart with line := { runPart.line with view := .busy, assembly := some ⟨bytes, false⟩ } }

theorem witness_line_view :
    offPart.line.view = .seeking ∧ runPart.line.view ≠ .seeking ∧ runPart.line.view = .quiet ∧
    runPart.line.assembly = none ∧ runPart.line.transmission = none ∧ runPart.port.config ≠ none ∧
    (heardLine runPart.line).view = .busy ∧ (heardLine runPart.line).assembly = none ∧
    (assembling []).line.view = .busy ∧ (assembling []).line.assembly ≠ none := by decide +kernel

theorem test_line_commands :
    (after .seekingEnd offPart).line.quietAt = some 0 ∧
    (after .lineBusy runPart).line.assembly = some ⟨[], false⟩ ∧
    (after .interframeGapEnd { runPart with line := heardLine runPart.line }).line.view = .quiet := by
  decide +kernel

/-- Section 6.5, frame 3: nine characters, then the line is given up. -/
theorem test_frame_abandoned_counts_an_error :
    (after .frameAbandoned (assembling (List.replicate 9 0))).filter.checkErrors = 1 ∧
    (after .frameAbandoned (assembling (List.replicate 9 0))).events.counters[16] = 1 ∧
    (after .frameAbandoned (assembling (List.replicate 9 0))).line.view = .quiet := by decide +kernel

/-- A SHARE body, an ALERT body, and the part with either waiting. -/
def share : ShareBody := ⟨2, 5, 1000, 10000, 0, 12000, 0, 0, 0⟩

def trip : AlertBody := ⟨.trip, 9, 700, 5333, 10000⟩

def waiting (alerts : List QueuedFrame) (slot : Option ShareBody) (time : Micros) : State :=
  { runPart with
    time := time
    line :=
      { runPart.line with alertQueue := alerts, shareSlot := slot, nextSequence := 0, firstFlag := true } }

/-- The slots of station 3: 6 and 38 microseconds into a cycle of 64 from the quiet instant. -/
theorem witness_access_slot :
    (waiting [⟨.alert trip, 1100000⟩] none 1100896).line.quietAt = some 1100890 ∧
    (waiting [] (some share) 1100928).line.view = .quiet ∧ runPart.line.transmission = none ∧
    (waiting [] (some share) 1100928).line.slotTaken = false ∧
    (after .accessSlot (waiting [] none 1100896)).line.slotTaken = true ∧
    ((1100896 : Micros) - 1100890).toNat % 64 = 2 * plan.station ∧
    ((1100960 : Micros) - 1100890).toNat % 64 = 2 * plan.station ∧
    ((1100897 : Micros) - 1100890).toNat % 64 ≠ 2 * plan.station ∧
    ((1100928 : Micros) - 1100890).toNat % 64 = 32 + 2 * plan.station ∧
    ((1100927 : Micros) - 1100890).toNat % 64 ≠ 32 + 2 * plan.station := by decide +kernel

/-- Section 6.4: the header of a first frame; a waiting alert holds the SHARE frame back (R82). -/
theorem test_share_slot_starts_the_frame :
    (after .accessSlot (waiting [] (some share) 1100928)).line.transmission.map (fun f => f.bytes.take 4) =
      some [0x13, 0x60, 0x00, 0x10] ∧
    (after .accessSlot (waiting [⟨.alert trip, 1100000⟩] (some share) 1100928)).line.transmission = none ∧
    (after .accessSlot (waiting [⟨.alert trip, 1100000⟩] (some share) 1100896)).line.shareSlot = some share := by
  decide +kernel

/-- A frame queued after the slot was taken in that microsecond waits for the next slot, 64 microseconds on (R81). -/
def queuedLate : State :=
  let taken := after .accessSlot (waiting [] none 1100896)
  { taken with line := { taken.line with alertQueue := [⟨.alert trip, 1100896⟩] } }

theorem test_taken_slot_starts_nothing :
    after .accessSlot queuedLate = queuedLate ∧ queuedLate.slotDue plan = false ∧
    (queuedLate.elapse 1).line.slotTaken = false ∧
    (after .accessSlot { queuedLate.elapse 1 with time := 1100960 }).line.transmission ≠ none := by
  decide +kernel

/-- The frame of section 6.4 in transmission, after some collisions. -/
def firstFrame : Frame := ⟨3, 1, true, 0, .share share⟩

def sending (collisions : Nat) : State :=
  { runPart with
    line :=
      { runPart.line with
        view := .busy
        transmission := some firstFrame
        nextSequence := 255
        firstFlag := true
        collisions := collisions } }

theorem test_frame_completed_consumes_the_sequence :
    (after .frameCompleted (sending 2)).line.nextSequence = 0 ∧
    (after .frameCompleted (sending 2)).line.firstFlag = false ∧
    (after .frameCompleted (sending 2)).line.collisions = 0 := by decide +kernel

/-- Differences in the first and the fifth character, by data and by the stop bit, after 0, 1 and 2 collisions. -/
theorem witness_collision :
    (∀ n ∈ [0, 1, 2], (sending n).line.transmission = some firstFrame ∧ (sending n).port.config = some plan) ∧
    firstFrame.bytes[0]? = some 0x13 ∧ firstFrame.bytes[4]? = some 0x02 ∧
    (characterOf 0x12).extractLsb' 1 8 ≠ (0x13 : Byte) ∧ (characterOf 0x02 &&& 0x1FF).getLsbD 9 = false ∧
    (sending 2).fault.picture = none := by decide +kernel

/-- A part in another state that sends after two collisions. -/
def sendingIn (s : State) : State := { s with line := (sending 2).line }

/-- A readback of the frame up to character `k`, which differs. -/
def readback (k : Nat) : List Character := (firstFrame.bytes.map characterOf).take k ++ [characterOf 0xA5]

/-- The length byte, the first body byte and the last of the 22 characters differ; the third collision in TRIPPED and in
OFF. -/
theorem witness_collision_at_every_place :
    (∀ k ∈ [3, 4, 21], ∃ b ∈ firstFrame.bytes[k]?, b ≠ 0xA5) ∧ firstFrame.bytes.length = 22 ∧
    (after (.collision (readback 3)) (sending 0)).line.assembly.map Assembly.malformed = some true ∧
    (after (.collision (readback 4)) (sending 0)).line.assembly.map Assembly.malformed = some false ∧
    (after (.collision (readback 21)) (sending 0)).line.assembly = none ∧
    (after (.collision (readback 21)) (sending 0)).filter.checkErrors = 1 ∧
    (after (.collision (readback 21)) (sendingIn (trippedPart .overTemperature))).fault.laterTrips = 255 ∧
    leaving.fault.picture = none ∧
    (after (.collision (readback 0)) (sendingIn leaving)).fault.picture.map TripPicture.stateBefore = some .off ∧
    (after (.collision (readback 0)) (sendingIn leaving)).line.nextSequence = 0 := by decide +kernel

theorem test_third_collision_trips :
    (after (.collision [characterOf 0x12]) (sending 1)).line.collisions = 2 ∧
    (after (.collision [characterOf 0x12]) (sending 1)).line.assembly = some ⟨[0x12], false⟩ ∧
    (after (.collision [characterOf 0x12]) (sending 2)).station.state = .tripped := by decide +kernel

theorem witness_alert_expiry :
    (waiting [⟨.leave, 1000000⟩] none 1020000).line.alertQueue = ⟨.leave, 1000000⟩ :: [] ∧
    20000 ≤ ((1020000 : Micros) - 1000000).toNat ∧ ((1019999 : Micros) - 1000000).toNat < 20000 := by
  decide +kernel

theorem test_alert_expiry_at_20_ms :
    (after .alertExpiry (waiting [⟨.leave, 1000000⟩] none 1020000)).line.alertQueue = [] ∧
    (after .alertExpiry (waiting [⟨.leave, 1000000⟩] none 1020000)).events.counters[18] = 1 ∧
    (after .alertExpiry (waiting [⟨.leave, 1000000⟩] none 1019999)).line.alertQueue.length = 1 := by decide +kernel

/-! ### Frames and the Peer Table -/

/-- The check of the nine bytes 31 to 39 hex is 29B1 hex, the known value of this check's generator and initial
value. -/
theorem test_check_of_the_nine_digits :
    crc16 [0x31, 0x32, 0x33, 0x34, 0x35, 0x36, 0x37, 0x38, 0x39] = 0x29B1 := by decide +kernel

/-- Section 6.4: a later LEAVE. -/
theorem test_leave_header : (Frame.payload ⟨3, 1, false, 7, .leave⟩) = [0x33, 0x40, 0x07, 0x00] := by
  decide +kernel

/-- A SHARE of another station. -/
def shareOf (station group : Nat) (first : Bool) (sequence : Byte) : Frame :=
  ⟨station, group, first, sequence, .share share⟩

/-- An ALERT of another station. -/
def alertFrom (station : Nat) (first : Bool) (sequence : Byte) (kind : AlertKind) : Frame :=
  ⟨station, 1, first, sequence, .alert { trip with kind := kind }⟩

theorem witness_frame_stops_at_its_stage :
    listening runPart ∧ (shareOf 2 1 false 42).inRange = true ∧ runPart.filter.station = some plan.station ∧
    runPart.filter.group = some plan.group ∧ (shareOf 2 1 false 42).bytes[0]? = some 0x12 ∧
    (shareOf 2 1 false 42).bytes[21]? ≠ none ∧
    (shareOf 2 1 false 42).payload ++ [0, 0] ≠ (shareOf 2 1 false 42).bytes ∧
    (shareOf 3 3 false 0).station = plan.station ∧ runPart.station.state ≠ .tripped ∧
    runPart.fault.picture = none ∧
    (shareOf 9 0 false 0).station ≠ plan.station ∧ (shareOf 9 0 false 0).group ≠ plan.group := by
  unfold listening
  decide +kernel

/-- A frame of station 2 with a kind, a length byte and body bytes, under its right check. -/
def spelled (kind length : Byte) (body : List Byte) : List Byte :=
  let payload := [kind * 16 + 2, 0x40, 42, length] ++ body
  payload ++ be16 (crc16 payload).toNat

/-- The frame received by the part is one more that is discarded. -/
def discards (bytes : List Byte) : Bool :=
  decide ((after (.frameReceived (bytes.map characterOf)) runPart).filter = { runPart.filter with checkErrors := 1 })

/-- Each reason of R103 at its edge: the kinds 0 and 4, the lengths of other kinds, a length no kind has, and every
checked field one below and one above its range; inside the ranges the frames pass. -/
theorem witness_spoilt :
    (∀ b ∈ [spelled 0 0 [], spelled 4 8 [1, 3, 0, 0, 0, 0, 0, 0], spelled 1 8 [1, 3, 0, 0, 0, 0, 0, 0],
        spelled 2 0 [], spelled 3 16 (List.replicate 16 1), spelled 2 9 (List.replicate 16 1),
        spelled 1 16 ([0, 5, 0, 0] ++ List.replicate 12 0), spelled 1 16 ([10, 5, 0, 0] ++ List.replicate 12 0),
        spelled 1 16 ([3, 1, 0, 0] ++ List.replicate 12 0), spelled 1 16 ([3, 21, 0, 0] ++ List.replicate 12 0),
        spelled 1 16 ([3, 5, 0x05, 0xDD] ++ List.replicate 12 0), spelled 2 8 [0, 3, 0, 0, 0, 0, 0, 0],
        spelled 2 8 [6, 3, 0, 0, 0, 0, 0, 0], spelled 2 8 [1, 0, 0, 0, 0, 0, 0, 0],
        spelled 2 8 [1, 10, 0, 0, 0, 0, 0, 0], spelled 2 8 [1, 3, 0x05, 0xDD, 0, 0, 0, 0]],
      discards b = true) ∧
    spoilt 1 16 ([3, 21, 0, 0] ++ List.replicate 12 0) ∧ spoilt 2 8 [1, 3, 0x05, 0xDD, 0, 0, 0, 0] ∧
    discards (spelled 1 16 ([9, 20, 0x05, 0xDC] ++ List.replicate 12 0)) = false ∧
    discards (spelled 2 8 [5, 9, 0x05, 0xDC, 0, 0, 0, 0]) = false ∧ discards (spelled 3 0 []) = false := by
  unfold spoilt
  decide +kernel

/-- The part after a collision at character `k` of its own frame, as one more station goes on sending. -/
def collided (k : Nat) : State := after (.collision (readback k)) (sending 0)

/-- Parts under assembly before the fourth character, at it with an unknown length, and short of 22; one character is
none but begins one, with and without its stop bit. -/
theorem witness_unended :
    ∀ b ∈ [(collided 2).line.assembly, (collided 3).line.assembly, (collided 20).line.assembly,
        (after (.frameReceived [characterOf 7]) runPart).line.assembly,
        (after (.frameReceived [characterOf 7 &&& 0x1FF#10]) runPart).line.assembly],
      b.any (fun a => decide (a.bytes ≠ [] ∧ (a.bytes.length < 4 ∨
        (a.bytes.length < 22 ∧ fieldAt a.bytes 3 1 ∈ [16, 0xA5])))) = true := by
  decide +kernel

/-- An aborted transmission's part, intact, goes on to a whole frame and is judged as one; with an unknown length it ends at
the twenty-second character and is discarded (R80, R88, R103). -/
theorem witness_frame_continued :
    (collided 4).line.assembly = some ⟨firstFrame.bytes.take 4 ++ [0xA5], false⟩ ∧
    (collided 3).line.assembly = some ⟨firstFrame.bytes.take 3 ++ [0xA5], true⟩ ∧
    (collided 4).line.transmission = none ∧ (collided 4).line.view = .busy ∧
    (after (.frameReceived (List.replicate 17 (characterOf 0))) (collided 4)).filter.checkErrors = 1 ∧
    (after (.frameReceived (List.replicate 18 (characterOf 0))) (collided 3)).filter.checkErrors = 1 ∧
    (after (.frameReceived (List.replicate 17 (characterOf 0))) (collided 3)).filter.checkErrors = 0 := by
  decide +kernel

/-- A frame of station 2 of which the readback holds the first characters: the rest completes it and it is accepted. -/
theorem witness_continued_frame_is_accepted :
    (after (.frameReceived ((onTheLine (shareOf 2 1 false 42)).drop 5))
      (after (.frameReceived ((onTheLine (shareOf 2 1 false 42)).take 5)) runPart)).peers =
      (after (.frameReceived (onTheLine (shareOf 2 1 false 42))) runPart).peers ∧
    (after (.frameReceived (onTheLine (shareOf 2 1 false 42))) runPart).filter.accepted = 1 := by
  decide +kernel

/-- The own number heard in TRIPPED and in OFF (R8, R26, R104, R181). -/
theorem witness_own_number_in_tripped_and_off :
    listening (trippedPart .overTemperature) ∧ listening leaving ∧ leaving.fault.picture = none ∧
    (after (.frameReceived (onTheLine (shareOf 3 1 false 0))) (trippedPart .overTemperature)).fault.laterTrips = 255 ∧
    (after (.frameReceived (onTheLine (shareOf 3 1 false 0))) leaving).fault.picture.map TripPicture.cause =
      some .duplicateStation ∧
    (after (.frameReceived (onTheLine (shareOf 3 1 false 0))) leaving).line.alertQueue.length = 1 := by
  unfold listening
  decide +kernel

/-- Section 6.5, frames 2 and 7, and frame 4: an ALERT of length 16 under a good check. -/
theorem test_frames_that_stop_at_a_stage :
    (after (.frameReceived (onTheLine (shareOf 9 0 false 0))) runPart).filter.otherGroup = 1 ∧
    (after (.frameReceived (onTheLine (shareOf 3 3 false 0))) runPart).station.state = .tripped ∧
    (after (.frameReceived (((List.replicate 20 0).set 0 0x22 |>.set 3 16) ++
      be16 (crc16 ((List.replicate 20 0).set 0 0x22 |>.set 3 16)).toNat |>.map characterOf)) runPart).filter
      = { runPart.filter with checkErrors := 1 } := by decide +kernel

/-- A new number below, between and above those held. -/
theorem witness_new_number :
    (∀ n ∈ [4, 11, 15], ∀ p ∈ runPart.peers, p.station ≠ n) ∧ (shareOf 11 1 false 200).inRange = true ∧
    (shareOf 11 1 false 200).station ≠ plan.station ∧ (shareOf 11 1 false 200).group = plan.group ∧
    runPart.peers.Pairwise (fun p q => p.station < q.station) ∧
    (alertFrom 11 true 0 .recovered).inRange = true ∧ (alertFrom 11 true 0 .standby).group = plan.group := by
  decide +kernel

/-- Section 6.5, frame 6. -/
theorem test_new_number_is_entered :
    (after (.frameReceived (onTheLine (shareOf 11 1 false 200))) runPart).peers.map Peer.station = [0, 1, 2, 11] ∧
    (after (.frameReceived (onTheLine (shareOf 11 1 false 200))) runPart).events.counters[11] = 1 ∧
    (after (.frameReceived (onTheLine ⟨11, 1, false, 0, .leave⟩)) runPart).peers = runPart.peers := by
  decide +kernel

/-- Distances 0, 1, 2, 127, 128 and 255 from the last sequence 41, to a FRESH, a SILENT and a LOST entry. -/
theorem witness_distances :
    runPart.peers.find? (fun q => decide (q.station = 2)) = some ridingPeer ∧
    (withStatus .silent 20).peers.find? (fun q => decide (q.station = 2)) =
      some { ridingPeer with status := .silent, age := 20 } ∧
    (withStatus .lost 100).peers.find? (fun q => decide (q.station = 2)) =
      some { ridingPeer with status := .lost, age := 100 } ∧
    ([41, 42, 43, 168, 169, 40].map fun n : Byte => ((shareOf 2 1 false n).sequence - ridingPeer.lastSequence).toNat) =
      [0, 1, 2, 127, 128, 255] := by decide +kernel

/-- The part with a SHARE of station 2 received. -/
def heard (s : State) (first : Bool) (sequence : Byte) : State :=
  after (.frameReceived (onTheLine (shareOf 2 1 first sequence))) s

theorem test_frames_of_a_known_peer :
    ((heard runPart false 43).peers.map Peer.missed = [0, 0, 8]) ∧ (heard runPart false 43).events.counters[17] = 1 ∧
    (heard runPart false 168).events.counters[17] = 1 ∧ (heard runPart false 169).filter.stale = 1 ∧
    (heard (withStatus .silent 20) false 169).events.counters[14] = 1 ∧
    (heard runPart false 41).filter.duplicate = 1 ∧ ((heard runPart true 41).peers.map Peer.missed = [0, 0, 0]) := by
  decide +kernel

/-- The last share update one millisecond old and one microsecond less; a known peer and a new number. -/
theorem witness_early_update :
    (∀ k ∈ [AlertKind.onset, .block, .trip], (alertFrom 2 false 42 k).inRange = true) ∧
    runPart.allocator.lastUpdate = some (1100000, 1100) ∧ 1000 ≤ ((1101000 : Micros) - 1100000).toNat ∧
    ((1100999 : Micros) - 1100000).toNat < 1000 ∧ (partIn .off).station.state = .off ∧
    offPart.allocator.lastUpdate = none ∧
    (42 : Byte) - ridingPeer.lastSequence = 1#8 ∧ (alertFrom 2 false 42 .trip).body = .alert trip := by
  decide +kernel

/-- The part in a state one millisecond after its last update, with an ALERT of station `n` received. -/
def alerting (s : State) (n : Nat) (first : Bool) (sequence : Byte) (kind : AlertKind) : State :=
  after (.frameReceived (onTheLine (alertFrom n first sequence kind))) { s with time := 1101000 }

/-- The early update in every ramping state, which it can end, and after each way an entry takes the ALERT: a new number,
the flag, distances 1, 2, 127 and 128 (R113, R114, R125, R136). -/
theorem witness_early_update_by_state_and_distance :
    (∀ s ∈ [partIn .starting, heldIn .restart, stoppingPart .off none, standbyPart, heldIn .blocked],
      (alerting s 2 false 42 .onset).allocator.lastUpdate = some (1101000, 1100) ∧
      (alerting s 2 false 42 .onset).allocator.shareTimer = some 1106000) ∧
    (alerting (partIn .starting) 2 false 42 .onset).station.state = .run ∧
    (alerting (heldIn .restart) 2 false 42 .block).events.counters[2] = 1 ∧
    (alerting runPart 11 false 200 .trip).events.counters[11] = 1 ∧
    (alerting runPart 2 true 0 .block).events.counters[14] = 1 ∧
    (alerting runPart 2 false 43 .onset).events.counters[17] = 1 ∧
    (alerting runPart 2 false 168 .onset).peers.map Peer.missed = [0, 0, 133] ∧
    (alerting (withStatus .silent 20) 2 false 169 .trip).events.counters[14] = 1 ∧
    (alerting (partIn .off) 2 false 42 .trip).allocator = (partIn .off).allocator := by decide +kernel

theorem test_alert_runs_the_early_update :
    (after (.frameReceived (onTheLine (alertFrom 2 false 42 .trip))) { runPart with time := 1101000 }).allocator.shareTimer
      = some 1106000 ∧
    (after (.frameReceived (onTheLine (alertFrom 2 false 42 .trip))) { runPart with time := 1101000 }).allocator.shortfallSum
      = 10000 ∧
    (after (.frameReceived (onTheLine (alertFrom 2 false 42 .trip))) { runPart with time := 1100999 }).allocator
      = runPart.allocator := by decide +kernel

/-- Ages at T_silent and T_lost and one below. -/
theorem witness_aging :
    plan.tSilent ≤ 20 ∧ 19 < plan.tSilent ∧ plan.tLost ≤ 100 ∧ 99 < plan.tLost ∧
    (withStatus .fresh 20).peers.find? (fun q => decide (q.station = (2 : Fin 16).val)) =
      some { ridingPeer with age := 20 } ∧
    (withStatus .silent 100).peers.Pairwise (fun a b => a.station < b.station) := by decide +kernel

theorem test_aging_at_its_times :
    (after (.peerSilent 2) (withStatus .fresh 20)).peers = (withStatus .silent 20).peers ∧
    (after (.peerSilent 2) (withStatus .fresh 19)).peers = (withStatus .fresh 19).peers ∧
    (after (.peerLost 2) (withStatus .silent 100)).peers = (withStatus .lost 100).peers ∧
    (after (.peerLost 2) (withStatus .silent 99)).peers = (withStatus .silent 99).peers := by decide +kernel

/-- Frames of each kind at the ends of their ranges. -/
theorem witness_frames_in_range :
    (∀ f ∈ [shareOf 15 3 true 255, alertFrom 0 false 0 .onset, ⟨0, 0, false, 0, .leave⟩,
        ⟨0, 0, true, 0, .share ⟨9, 20, 1500, 65535, 65535, 65535, 65535, 65535, 65535⟩⟩,
        ⟨0, 0, true, 0, .share ⟨1, 2, 0, 0, 0, 0, 0, 0, 0⟩⟩],
      f.inRange = true) ∧
    Frame.inRange ⟨0, 0, true, 0, .share ⟨10, 2, 0, 0, 0, 0, 0, 0, 0⟩⟩ = false := by decide +kernel

/-! ### The invariants -/

/-- The part in RUN at its next boundary, the command waiting. -/
def boundaryWaits : State := { runPart with time := 1104290, pending := [.sectorBoundary still anyOrder] }

theorem witness_invariants_of_one_block :
    boundaryWaits.events.Sound ∧ boundaryWaits.station.StackFits ∧ boundaryWaits.station.HeldWhereUsed ∧
    boundaryWaits.sampler.Sound ∧ boundaryWaits.classifier.Sound ∧ boundaryWaits.line.Sound := by
  and_intros <;> decide +kernel

theorem witness_invariants_of_the_part :
    boundaryWaits.ConfigurationSound ∧ boundaryWaits.TrackerSound ∧ boundaryWaits.SendsByState ∧
    boundaryWaits.PeersSound ∧ boundaryWaits.FiguresShared ∧ boundaryWaits.SetpointSound ∧
    boundaryWaits.CoverSound ∧ boundaryWaits.AnglesSound ∧ boundaryWaits.GatesSound ∧ boundaryWaits.FaultSound ∧
    boundaryWaits.DemandSound ∧ boundaryWaits.FramesInRange := by
  and_intros <;> decide +kernel

theorem boundary_steps :
    step boundaryWaits = .next (after (.sectorBoundary still anyOrder) { boundaryWaits with pending := [] }) := rfl

/-- A valid record stands while a command other than CLEAR FAULT and POWER_ON_RESET waits. -/
theorem witness_fault_record_stands :
    (trippedPart .overTemperature).FaultSound ∧ (trippedPart .overTemperature).ConfigurationSound ∧
    (trippedPart .overTemperature).fault.picture ≠ none ∧
    (trippedPart .overTemperature).pending.head? ≠ some .clearFault := by decide +kernel

end Sys2Proof.Tests
end

section
/-! SUPPORT. What any command can do to the part, once for all invariants: a run of elementary moves. `Move` has one
constructor per elementary effect, with the conditions under which a command brings it about; `step_moves` reads every
step as a run of moves. An invariant then needs one case per elementary effect and no unfolding of a command. -/

namespace Sys2Proof.Machine

/-! ### Elementary moves -/

/-- What the receiver, the access and the expiry do at the line: a queued frame or the SHARE frame can leave, a
transmission can end, none begins and nothing joins. -/
structure ShareLine.Relays (l l' : ShareLine) : Prop where
  queue : l'.alertQueue = l.alertQueue ∨ l'.alertQueue = l.alertQueue.drop 1
  slot : l'.shareSlot = l.shareSlot
  transmission : l'.transmission = l.transmission ∨ l'.transmission = none
  collisions : l'.collisions ≤ max 3 l.collisions
  mark : l'.highWater = l.highWater ∨ l'.highWater = l'.alertQueue.length

/-- What an entry out of a state and into another asks of the two (R1, R26, R27): the ends of TRIPPED are moves of their
own, UNCONFIGURED ends with LOAD CONFIG alone, and OFF is not entered again. -/
abbrev EntryAllowed (left entered : StationState) : Prop :=
  (left ≠ .unconfigured ∧ left ≠ .tripped) ∧ (entered ≠ .unconfigured ∧ entered ≠ .tripped) ∧
  (entered = .off → left ≠ .off)

/-- One elementary effect of a step whose command is `c` (none on an empty queue). -/
inductive Move (c : Option Instr) : State → State → Prop
  | queue (s : State) (rest : List Instr) : Move c s (s.setPending rest)
  | elapse (s : State) (us : Nat) : Move c s (s.elapse us)
  | reset (s : State) (h : c = some .powerOnReset) :
      Move c s ((State.reset.setPending s.pending).setPort
        { SupervisorPort.reset with srstAsserted := s.port.srstAsserted })
  | load (s : State) (p : List Byte) (plant : PlantInputs) (hn : s.port.config = none) (hl : p.length = 115)
      (hf : configurationFault p = none) : Move c s (s.acceptConfiguration (configurationOf p) plant)
  | port (s : State) (p : SupervisorPort) (h : p.config = s.port.config) : Move c s (s.setPort p)
  | count (s : State) (k : EventKind) : Move c s (s.count k)
  | zeroEvents (s : State) : Move c s (s.setEvents s.events.zero)
  | acknowledge (s : State) (pairs : List (Nat × Nat)) : Move c s (s.setEvents (s.events.acknowledge pairs))
  | filter (s : State) (m : FrameFilter) (hs : m.station = s.filter.station) (hg : m.group = s.filter.group) :
      Move c s (s.setFilter m)
  | peers (s : State) (cfg : Configuration) (x : List Peer) (hc : s.port.config = some cfg) :
      Move c s (s.setPeers x)
  | protection (s : State) (v : Vector ProtectionInput 4) : Move c s (s.setProtection v)
  | tracker (s : State) (cfg : Configuration) (k : Tracker) (hc : s.port.config = some cfg)
      (h : k.state = s.tracker.state ∨ s.tracker.state ≠ .locked) : Move c s (s.setTracker k)
  | loseLock (s : State) (cfg : Configuration) (hc : s.port.config = some cfg) :
      Move c s ((s.setTracker s.tracker.lose).setGates s.gates.block)
  | sampler (s : State) (cfg : Configuration) (m : Sampler) (hc : s.port.config = some cfg)
      (h : m.mode = .idle → s.sampler.mode = .idle) : Move c s (s.setSampler m)
  | classifier (s : State) (cfg : Configuration) (x : Classifier) (hc : s.port.config = some cfg)
      (h : x.state = .inactive → s.classifier.state = .inactive) : Move c s (s.setClassifier x)
  | allocator (s : State) (cfg : Configuration) (a : Allocator) (hc : s.port.config = some cfg) :
      Move c s (s.setAllocator a)
  | line (s : State) (l : ShareLine) (h : s.line.Relays l) (hv : l.view = .inactive → s.line.view = .inactive)
      (hn : s.port.config = none → s.line.view = .inactive → l.view = .inactive) : Move c s (s.setLine l)
  | slot (s : State) (cfg : Configuration) (hc : s.port.config = some cfg) :
      Move c s (s.setLine (s.line.takeSlot cfg s.time))
  | alert (s : State) (cfg : Configuration) (kind : AlertKind) (hc : s.port.config = some cfg)
      (ho : s.station.state ≠ .off) : Move c s (s.queueAlert kind)
  | share (s : State) (cfg : Configuration) (body : ShareBody) (hc : s.port.config = some cfg)
      (ho : s.station.state ≠ .off) : Move c s (s.setLine { s.line with shareSlot := some body })
  | regulate (s : State) (cfg : Configuration) (setpoint current : Nat) (hc : s.port.config = some cfg) :
      Move c s (s.setRegulator (s.regulator.update cfg setpoint current))
  | schedule (s : State) (cfg : Configuration) (period : Nat) (b : Boundary) (hc : s.port.config = some cfg)
      (hk : s.tracker.state = .locked) : Move c s (s.setGates (s.gates.schedule cfg period b))
  | latch (s : State) (cfg : Configuration) (u : Int) (hc : s.port.config = some cfg) :
      Move c s (s.setGates (s.gates.latch (some (angleOf cfg u))))
  | fire (s : State) (cfg : Configuration) (hc : s.port.config = some cfg) : Move c s (s.fire cfg)
  | pulseEnd (s : State) (g : Fin 6) : Move c s (s.setGates { s.gates with outputs := s.gates.outputs.set g none })
  | lowLoad (s : State) (cfg : Configuration) (delivered ms : Nat) (hc : s.port.config = some cfg)
      (hs : s.station.state = .run) : Move c s (s.setStation (s.station.lowLoadAfter cfg delivered ms))
  | redirect (s : State) (cfg : Configuration) (hc : s.port.config = some cfg) (hs : s.station.state = .stopping) :
      Move c s (s.setStation { s.station with destination := some .off, stoppingOrigin := none })
  | enter (s : State) (cfg : Configuration) (dest : StationState) (st : Station) (hc : s.port.config = some cfg)
      (he : EntryAllowed s.station.state dest) (hs : st.state = dest)
      (hfit : s.station.StackFits → st.StackFits) (hheld : st.HeldWhereUsed)
      (hsaved : ∀ r ∈ st.stack, r ∈ s.station.stack ∨ r.integrator = s.regulator.integrator) :
      Move c s ((s.enter cfg dest).setStation st)
  | trip (s : State) (cfg : Configuration) (cause : TripCause) (hc : s.port.config = some cfg)
      (hu : s.station.state ≠ .unconfigured) (ht : s.station.state ≠ .tripped) :
      Move c s (((s.setFault (s.fault.take (s.tripPicture cause))).enter cfg .tripped).emptyStack)
  | laterTrip (s : State) (cfg : Configuration) (hc : s.port.config = some cfg) (ht : s.station.state = .tripped) :
      Move c s (s.setFault s.fault.laterTrip)
  | clear (s : State) (cfg : Configuration) (h : c = some .clearFault) (hc : s.port.config = some cfg)
      (ht : s.station.state = .tripped) : Move c s ((s.setFault FaultRecord.reset).enter cfg .off)

/-- A run of elementary moves. -/
abbrev Moves (c : Option Instr) : State → State → Prop := Relation.ReflTransGen (Move c)

/-- An invariant that every move keeps is kept by a run of them. -/
theorem Moves.keeps {c : Option Instr} {P : State → Prop} (hP : ∀ s t, Move c s t → P s → P t) {s t : State}
    (h : Moves c s t) (hs : P s) : P t := by
  induction h with
  | refl => exact hs
  | tail _ hm ih => exact hP _ _ hm ih

section
variable {c : Option Instr} {s t : State} {cfg : Configuration}

theorem Moves.move {u : State} (h : Moves c s t) (hm : Move c t u) : Moves c s u := h.tail hm

theorem EntryAllowed.of_state {st : Station} {left dest : StationState} (hs : st.state = left)
    (h : EntryAllowed left dest) : EntryAllowed st.state dest := hs ▸ h

/-! ### The Station Controller's operations as moves -/

theorem Moves.answer (h : Moves c s t) (r : Response) : Moves c s (t.answer r) := h.tail (.port _ _ rfl)

theorem Moves.count (h : Moves c s t) (k : EventKind) : Moves c s (t.count k) := h.tail (.count _ _)

theorem Moves.countIf (h : Moves c s t) (came : Bool) (k : EventKind) : Moves c s (t.countIf came k) := by
  unfold State.countIf
  split
  · exact h.count k
  · exact h

theorem Moves.queueAlert (h : Moves c s t) (kind : AlertKind) (hc : t.port.config = some cfg)
    (ho : t.station.state ≠ .off) : Moves c s (t.queueAlert kind) := h.tail (.alert _ _ _ hc ho)

/-- What an entry other than one into STOPPING or STANDBY leaves held (R4, R5, R20, R24). -/
theorem Station.enter_held (st : Station) (dest : StationState) (now : Micros) (stack : List ContextRecord)
    (h1 : dest ≠ .stopping) (h2 : dest ≠ .standby) :
    Station.HeldWhereUsed { st.enter dest now with stack := stack } := by
  refine ⟨?_, ?_, ?_, ?_, ?_, ?_⟩ <;> simp [Station.enter, h1, h2]

/-- An entry that keeps the stack. -/
theorem Moves.enter (h : Moves c s t) (dest : StationState) (hc : t.port.config = some cfg)
    (he : EntryAllowed t.station.state dest) (h1 : dest ≠ .stopping) (h2 : dest ≠ .standby)
    (hr : dest.holdsRecords = t.station.state.holdsRecords) : Moves c s (t.enter cfg dest) :=
  h.tail (.enter t cfg dest (t.station.enter dest t.time) hc he rfl
    (fun ⟨hl, hi⟩ => ⟨hl, hi.trans (by rw [← hr]; rfl)⟩)
    (Station.enter_held _ _ _ _ h1 h2) (fun _ hr => .inl hr))

/-- An entry that empties the stack. -/
theorem Moves.enterEmptied (h : Moves c s t) (dest : StationState) (st : Station) (hc : t.port.config = some cfg)
    (he : EntryAllowed t.station.state dest) (hd : dest.holdsRecords = false) (hs : st.state = dest)
    (hst : st.stack = []) (hheld : st.HeldWhereUsed) : Moves c s ((t.enter cfg dest).setStation st) :=
  h.tail (.enter t cfg dest st hc he hs (fun _ => by simp [Station.StackFits, hst, hs, hd]) hheld (by simp [hst]))

theorem Moves.enterStandby (h : Moves c s t) (origin : StandbyOrigin) (hc : t.port.config = some cfg)
    (he : EntryAllowed t.station.state .standby) : Moves c s (t.enterStandby cfg origin) := by
  refine h.enterEmptied .standby
    { t.station.enter .standby t.time with stack := [], standbyOrigin := some origin } hc he rfl rfl rfl ?_
  simp [Station.HeldWhereUsed, Station.enter]

theorem Moves.enterStopping (h : Moves c s t) (destination : Destination) (origin : Option StoppingOrigin)
    (hc : t.port.config = some cfg) (he : EntryAllowed t.station.state .stopping)
    (ho : origin ≠ none ↔ destination = .standby) : Moves c s (t.enterStopping cfg destination origin) := by
  refine h.enterEmptied .stopping
    { t.station.enter .stopping t.time with
      stack := [], destination := some destination, stoppingOrigin := origin } hc he rfl rfl rfl ?_
  simpa [Station.HeldWhereUsed, Station.enter] using ho

theorem Moves.enterOffEmptied (h : Moves c s t) (hc : t.port.config = some cfg)
    (he : EntryAllowed t.station.state .off) : Moves c s ((t.enter cfg .off).emptyStack) :=
  h.enterEmptied .off { t.station.enter .off t.time with stack := [] } hc he rfl rfl rfl
    (Station.enter_held _ _ _ _ (by decide) (by decide))

/-- Entry into a state that holds records, with a record pushed. -/
theorem Moves.enterPushed (h : Moves c s t) (dest : StationState) (setpoint : Nat) (hc : t.port.config = some cfg)
    (he : EntryAllowed t.station.state dest) (h1 : dest = .ride ∨ dest = .blocked)
    (hroom : t.station.StackFits → t.station.stack.length < 2) :
    Moves c s ((t.pushContext setpoint).enter cfg dest) := by
  have hmove : (t.pushContext setpoint).enter cfg dest = (t.enter cfg dest).setStation
      { t.station.enter dest t.time with stack := t.station.stack ++
        [⟨t.classifier.active.firstKind, t.regulator.integrator, setpoint⟩] } := by
    rcases h1 with rfl | rfl <;> rfl
  rw [hmove]
  have hrec : dest.holdsRecords = true := by rcases h1 with rfl | rfl <;> rfl
  refine h.tail (.enter t cfg dest _ hc he rfl (fun hfit => ?_) ?_ ?_)
  · have := hroom hfit
    simp [Station.StackFits, hrec]
    omega
  · exact Station.enter_held _ _ _ _ (by rcases h1 with rfl | rfl <;> decide) (by rcases h1 with rfl | rfl <;> decide)
  · intro r hr
    rcases List.mem_append.mp hr with hr | hr
    · exact .inl hr
    · exact .inr (by rw [List.mem_singleton.mp hr])

theorem Moves.trip (h : Moves c s t) (cause : TripCause) (hc : t.port.config = some cfg) :
    Moves c s (t.trip cfg cause) := by
  unfold State.trip
  split
  · exact h
  · exact h.move (.laterTrip _ _ hc ‹_›)
  all_goals
    refine Moves.count (Moves.queueAlert (cfg := cfg) (h.move (.trip t cfg cause hc (by simp [*]) (by simp [*])))
      .trip ?_ ?_) .trip
    · simpa using hc
    · simp [State.emptyStack]

theorem Moves.protectionStandby (h : Moves c s t) (hc : t.port.config = some cfg) :
    Moves c s (t.protectionStandby cfg) := by
  unfold State.protectionStandby
  split
  case h_1 hs | h_2 hs | h_3 hs | h_4 hs | h_5 hs | h_6 hs | h_7 hs =>
    exact (h.enterStandby .protection hc (.of_state hs (by decide))).queueAlert (cfg := cfg) .standby
      (by simpa using hc) (by simp [State.enterStandby, State.emptyStack])
  all_goals exact h

theorem Moves.testStart (h : Moves c s t) (hc : t.port.config = some cfg) (hs : t.station.state = .syncing) :
    Moves c s (t.testStart cfg) := by
  unfold State.testStart
  split
  · exact h.enter .starting hc (.of_state hs (by decide)) (by decide) (by decide) (by rw [hs]; rfl)
  · exact h

theorem Moves.enterDestination (h : Moves c s t) (hc : t.port.config = some cfg)
    (hs : t.station.state = .stopping) : Moves c s (t.enterDestination cfg) := by
  unfold State.enterDestination
  split
  · exact h.enter .off hc (.of_state hs (by decide)) (by decide) (by decide) (by rw [hs]; rfl)
  · exact h.enterStandby _ hc (.of_state hs (by decide))
  · exact h

theorem Moves.testStopping (h : Moves c s t) (hc : t.port.config = some cfg)
    (hs : t.station.state = .stopping) : Moves c s (t.testStopping cfg) := by
  unfold State.testStopping
  split
  · exact h.enterDestination hc hs
  · exact h

theorem Moves.boundaryTests (h : Moves c s t) (hc : t.port.config = some cfg) :
    Moves c s (t.boundaryTests cfg) := by
  unfold State.boundaryTests
  split
  · exact h.testStart hc ‹_›
  · exact h.testStopping hc ‹_›
  all_goals exact h

theorem Moves.rideOut (h : Moves c s t) (setpoint : Nat) (hc : t.port.config = some cfg)
    (he : EntryAllowed t.station.state .ride) (hroom : t.station.StackFits → t.station.stack.length < 2) :
    Moves c s (t.rideOut cfg setpoint) :=
  (h.enterPushed .ride setpoint hc he (.inl rfl) hroom).queueAlert (cfg := cfg) .onset (by simpa using hc) (by simp)

theorem Moves.pushAndBlock (h : Moves c s t) (setpoint : Nat) (hc : t.port.config = some cfg)
    (he : EntryAllowed t.station.state .blocked) (hroom : t.station.StackFits → t.station.stack.length < 2) :
    Moves c s ((t.pushContext setpoint).enterBlocked cfg) :=
  (h.enterPushed .blocked setpoint hc he (.inr rfl) hroom).queueAlert (cfg := cfg) .block (by simpa using hc)
    (by simp)

theorem Moves.escalate (h : Moves c s t) (hc : t.port.config = some cfg)
    (he : EntryAllowed t.station.state .standby) : Moves c s (t.escalate cfg) :=
  ((h.enterStandby .escalation hc he).queueAlert (cfg := cfg) .standby (by simpa using hc)
    (by simp [State.enterStandby, State.emptyStack])).count .escalation

theorem Moves.reactTo (h : Moves c s t) (x : Transition) (setpoint : Nat) (hc : t.port.config = some cfg) :
    Moves c s (t.reactTo cfg x setpoint) := by
  have room {d : StationState} (hs : t.station.state = d) (hd : d.holdsRecords = false) (hfit : t.station.StackFits) :
      t.station.stack.length < 2 := by simp [hfit.stack_eq_nil (by rw [hs]; exact hd)]
  unfold State.reactTo
  split
  case h_1 hs => exact h.testStart hc hs
  case h_2 hs _ =>
    exact h.enter .syncing hc (.of_state hs (by decide)) (by decide) (by decide) (by rw [hs]; rfl)
  case h_3 hs _ =>
    exact h.enter .syncing hc (.of_state hs (by decide)) (by decide) (by decide) (by rw [hs]; rfl)
  case h_4 hs _ => exact h.rideOut setpoint hc (.of_state hs (by decide)) (room hs rfl)
  case h_5 hs _ => exact h.pushAndBlock setpoint hc (.of_state hs (by decide)) (room hs rfl)
  case h_6 hs _ =>
    exact Moves.queueAlert (cfg := cfg)
      (h.enter .blocked hc (.of_state hs (by decide)) (by decide) (by decide) (by rw [hs]; rfl)) .block
      (by simpa using hc) (by simp)
  case h_7 hs _ =>
    exact h.enter .restart hc (.of_state hs (by decide)) (by decide) (by decide) (by rw [hs]; rfl)
  case h_8 hs _ =>
    exact h.enter .restart hc (.of_state hs (by decide)) (by decide) (by decide) (by rw [hs]; rfl)
  case h_9 hs _ =>
    split
    · exact h.rideOut setpoint hc (.of_state hs (by decide)) (fun _ => ‹_›)
    · exact h.escalate hc (.of_state hs (by decide))
  case h_10 hs _ =>
    split
    · exact h.pushAndBlock setpoint hc (.of_state hs (by decide)) (fun _ => ‹_›)
    · exact h.escalate hc (.of_state hs (by decide))
  case h_11 hs _ => exact h.enterDestination hc hs
  case h_12 => exact h

theorem Moves.completeRestart (h : Moves c s t) (hc : t.port.config = some cfg)
    (hs : t.station.state = .restart) : Moves c s (t.completeRestart cfg) := by
  have hm : Moves c s ((t.enter cfg .run).emptyStack) :=
    h.enterEmptied .run { t.station.enter .run t.time with stack := [] } hc (.of_state hs (by decide)) rfl rfl rfl
      (Station.enter_held _ _ _ _ (by decide) (by decide))
  exact (hm.queueAlert (cfg := cfg) .recovered (by simpa using hc) (by simp [State.emptyStack])).count .recovered

theorem Moves.endOfUpdate (h : Moves c s t) (ms : Nat) (hc : t.port.config = some cfg) :
    Moves c s (t.endOfUpdate cfg ms) := by
  unfold State.endOfUpdate
  split
  case h_1 hs =>
    split
    · exact h.enter .run hc (.of_state hs (by decide)) (by decide) (by decide) (by rw [hs]; rfl)
    · exact h
  case h_2 hs =>
    split
    · exact h.completeRestart hc hs
    · exact h
  case h_3 hs => exact h.testStopping hc hs
  case h_4 hs => exact h.move (.lowLoad _ _ _ _ hc hs)
  all_goals exact h

theorem Moves.takeStart (h : Moves c s t) (hc : t.port.config = some cfg) : Moves c s (t.takeStart cfg) := by
  unfold State.takeStart
  split
  case h_1 hs | h_2 hs =>
    exact (h.enter .syncing hc (.of_state hs (by decide)) (by decide) (by decide) (by rw [hs]; rfl)).answer _
  all_goals exact h.answer _

theorem Moves.takeStop (h : Moves c s t) (hc : t.port.config = some cfg) : Moves c s (t.takeStop cfg) := by
  unfold State.takeStop
  split
  case h_1 hs =>
    exact (h.enter .off hc (.of_state hs (by decide)) (by decide) (by decide) (by rw [hs]; rfl)).answer _
  case h_2 hs | h_3 hs | h_4 hs | h_5 hs =>
    exact (h.enterStopping .off none hc (.of_state hs (by decide)) (by simp)).answer _
  case h_6 hs | h_7 hs => exact (h.enterOffEmptied hc (.of_state hs (by decide))).answer _
  case h_8 hs => exact (h.move (.redirect _ _ hc hs)).answer _
  all_goals exact h.answer _

theorem Moves.takeStandby (h : Moves c s t) (hc : t.port.config = some cfg) : Moves c s (t.takeStandby cfg) := by
  unfold State.takeStandby
  split
  case h_1 hs | h_2 hs | h_3 hs | h_4 hs =>
    exact (h.enterStopping .standby (some .request) hc (.of_state hs (by decide)) (by simp)).answer _
  case h_5 hs | h_6 hs => exact (h.enterStandby .request hc (.of_state hs (by decide))).answer _
  all_goals exact h.answer _

theorem Moves.takeClearFault (h : Moves c s t) (hc : t.port.config = some cfg) (hcmd : c = some .clearFault) :
    Moves c s (t.takeClearFault cfg) := by
  unfold State.takeClearFault
  split
  case h_1 hs =>
    split
    · exact h.answer _
    · exact (h.move (.clear _ _ hcmd hc hs)).answer _
  all_goals exact h.answer _

theorem Moves.blockTimeout (h : Moves c s t) (hc : t.port.config = some cfg) (hs : t.station.state = .blocked) :
    Moves c s (t.blockTimeout cfg) :=
  ((h.enterStandby .blockTimeout hc (.of_state hs (by decide))).queueAlert (cfg := cfg) .standby
    (by simpa using hc) (by simp [State.enterStandby, State.emptyStack])).count .blockTimeout

theorem Moves.lowLoadExpire (h : Moves c s t) (hc : t.port.config = some cfg) (hs : t.station.state = .run) :
    Moves c s (t.lowLoadExpire cfg) :=
  (h.count .lowLoad).enterStopping .standby (some .lowLoad) (by simpa using hc)
    (.of_state (left := .run) (by simpa using hs) (by decide)) (by simp)

theorem Moves.resetStation (h : Moves c s t) (hc : t.port.config = some cfg) :
    Moves c s (t.resetStation cfg) := by
  have hd : Moves c s (t.setAllocator t.allocator.dropDemand) := h.move (.allocator _ _ _ hc)
  unfold State.resetStation
  split
  case h_1 | h_2 => exact h
  case h_3 => exact hd
  all_goals
    rename_i hs
    exact hd.enterOffEmptied (by simpa using hc) (.of_state hs (by decide))

/-! ### The classifier's operations as moves -/

theorem Moves.setClassifier (h : Moves c s t) (x : Classifier) (hc : t.port.config = some cfg)
    (hx : x.state = .inactive → t.classifier.state = .inactive) : Moves c s (t.setClassifier x) :=
  h.move (.classifier _ _ _ hc hx)

theorem Moves.report (h : Moves c s t) (x : Classifier) (onset : Bool) (setpoint : Nat)
    (hc : t.port.config = some cfg) (hx : x.state ≠ .inactive) : Moves c s (t.report cfg x onset setpoint) :=
  (h.setClassifier x hc (fun hi => absurd hi hx)).reactTo _ _ (by simpa using hc)

theorem Moves.countOnset (h : Moves c s t) (kind : DisturbanceKind) (entered : ClassifierState) :
    Moves c s (t.countOnset kind entered) := by
  unfold State.countOnset
  split <;> split
  · exact ((h.count _).count _).count _
  · exact (h.count _).count _
  · exact (h.count _).count _
  · exact h.count _

theorem Moves.openDisturbance (h : Moves c s t) (kind : DisturbanceKind) (entered : ClassifierState)
    (setpoint : Nat) (hc : t.port.config = some cfg) (he : entered ≠ .inactive) :
    Moves c s (t.openDisturbance cfg kind entered setpoint) :=
  (h.countOnset kind entered).report _ true setpoint (by simpa using hc) he

theorem Moves.goOutside (h : Moves c s t) (setpoint : Nat) (hc : t.port.config = some cfg) :
    Moves c s (t.goOutside cfg setpoint) :=
  (h.count .block).report _ false setpoint (by simpa using hc) (by simp)

theorem Moves.joinKind (h : Moves c s t) (kind : DisturbanceKind) (hc : t.port.config = some cfg) :
    Moves c s (t.joinKind kind) := h.setClassifier _ hc id

theorem Moves.restartConfirm (h : Moves c s t) (hc : t.port.config = some cfg) : Moves c s t.restartConfirm :=
  h.setClassifier _ hc id

theorem Moves.sagOnset (h : Moves c s t) (v setpoint : Nat) (hc : t.port.config = some cfg) :
    Moves c s (t.sagOnset cfg v setpoint) :=
  h.openDisturbance _ _ _ hc (by split <;> simp)

theorem Moves.testRecovery (h : Moves c s t) (v setpoint : Nat) (hc : t.port.config = some cfg) :
    Moves c s (t.testRecovery cfg v setpoint) := by
  unfold State.testRecovery
  split
  · exact h.report _ _ _ hc (by simp)
  · exact h

theorem Moves.joinSag (h : Moves c s t) (v : Nat) (hc : t.port.config = some cfg) : Moves c s (t.joinSag cfg v) := by
  unfold State.joinSag
  split
  · exact h.joinKind _ hc
  · exact h

theorem Moves.classifyFigure (h : Moves c s t) (v setpoint : Nat) (hc : t.port.config = some cfg) :
    Moves c s (t.classifyFigure cfg v setpoint) := by
  have hj : Moves c s (t.joinSag cfg v) := h.joinSag v hc
  have hjc : (t.joinSag cfg v).port.config = some cfg := by simpa using hc
  unfold State.classifyFigure
  split
  · exact h
  · split
    · exact h.sagOnset v setpoint hc
    · exact h
  · split
    · exact h.sagOnset v setpoint hc
    · split
      · exact h.restartConfirm hc
      · exact h
  · split
    · exact hj.goOutside setpoint hjc
    · exact hj.testRecovery v setpoint hjc
  · exact hj.testRecovery v setpoint hjc

theorem Moves.classifyPhaseJump (h : Moves c s t) (hc : t.port.config = some cfg) :
    Moves c s (t.classifyPhaseJump cfg) := by
  unfold State.classifyPhaseJump
  split
  case h_1 => exact h
  case h_2 | h_3 => exact h.openDisturbance _ _ _ hc (by simp)
  case h_4 | h_5 => exact h.joinKind _ hc

theorem Moves.classifySyncLoss (h : Moves c s t) (hc : t.port.config = some cfg) :
    Moves c s (t.classifySyncLoss cfg) := by
  unfold State.classifySyncLoss
  split
  case h_1 => exact h
  case h_2 | h_3 => exact h.openDisturbance _ _ _ hc (by simp)
  case h_4 => exact (h.joinKind _ hc).goOutside _ (by simpa using hc)
  case h_5 => exact h.joinKind _ hc

theorem Moves.joinFrequency (h : Moves c s t) (hc : t.port.config = some cfg) : Moves c s t.joinFrequency := by
  unfold State.joinFrequency
  split
  · exact h
  · exact Moves.count (h.setClassifier (cfg := cfg) _ hc (by exact id)) _

theorem Moves.actOnBand (h : Moves c s t) (hc : t.port.config = some cfg) : Moves c s (t.actOnBand cfg) := by
  have hopen : Moves c s (t.openDisturbance cfg .frequency .disturbed t.allocator.setpoint) :=
    h.openDisturbance _ _ _ hc (by simp)
  unfold State.actOnBand
  split
  case h_1 => exact h
  case h_2 =>
    split
    · exact hopen
    · exact h
  case h_3 =>
    split
    · exact hopen
    · split
      · exact h
      · exact h.restartConfirm hc
  case h_4 | h_5 =>
    split
    · exact h.joinFrequency hc
    · exact h

theorem Moves.classifyFrequency (h : Moves c s t) (f : Nat) (hc : t.port.config = some cfg) :
    Moves c s (t.classifyFrequency cfg f) := by
  unfold State.classifyFrequency
  split
  · exact h
  · exact (h.setClassifier (t.classifier.recordFigure cfg f) hc id).actOnBand (by simpa using hc)

theorem Moves.recovered (h : Moves c s t) (hc : t.port.config = some cfg) : Moves c s (t.recovered cfg) :=
  h.report _ _ _ hc (by simp)

/-! ### The tracker's operations as moves -/

theorem Moves.setTracker (h : Moves c s t) (k : Tracker) (hc : t.port.config = some cfg)
    (hk : k.state = t.tracker.state ∨ t.tracker.state ≠ .locked) : Moves c s (t.setTracker k) :=
  h.move (.tracker _ _ _ hc hk)

theorem Moves.setSampler (h : Moves c s t) (m : Sampler) (hc : t.port.config = some cfg)
    (hm : m.mode = .idle → t.sampler.mode = .idle) : Moves c s (t.setSampler m) :=
  h.move (.sampler _ _ _ hc hm)

theorem Moves.extendRun (h : Moves c s t) (interval : Nat) (hc : t.port.config = some cfg)
    (hk : t.tracker.state ≠ .locked) : Moves c s (t.extendRun cfg interval) := by
  unfold State.extendRun
  split
  · exact (h.setTracker _ hc (.inr hk)).setSampler (cfg := cfg) _ (by simpa using hc) (by simp [Sampler.lockNotice])
  · exact h.setTracker _ hc (.inl rfl)

theorem Moves.acquire (h : Moves c s t) (interval : Nat) (hc : t.port.config = some cfg)
    (hk : t.tracker.state ≠ .locked) : Moves c s (t.acquire cfg interval) := by
  unfold State.acquire
  split
  · exact h.extendRun interval hc hk
  · split
    · exact h.extendRun interval hc hk
    · exact h.setTracker _ hc (.inr hk)

theorem Moves.reportBand (h : Moves c s t) (error : Int) (hc : t.port.config = some cfg) :
    Moves c s (t.reportBand cfg error) := by
  unfold State.reportBand
  split
  · exact h
  · split
    · exact h.count _
    · exact (h.count _).classifyPhaseJump (by simpa using hc)

theorem Moves.plausibleCapture (h : Moves c s t) (interval : Nat) (hc : t.port.config = some cfg) :
    Moves c s (t.plausibleCapture cfg interval) := by
  unfold State.plausibleCapture
  split
  case h_1 hs => exact h.setTracker _ hc (.inr (by simp [hs]))
  case h_2 hs => exact h.acquire interval hc (by simp [hs])
  case h_3 =>
    exact Moves.reportBand (h.setTracker (cfg := cfg) _ hc (by exact .inl rfl)) _ (by simpa using hc)

theorem Moves.capture (h : Moves c s t) (hc : t.port.config = some cfg) : Moves c s (t.capture cfg) := by
  have hjudged : Moves c s (t.judgeCapture cfg) := by
    have hr : Moves c s (t.setTracker { t.tracker with previous := some t.time }) := h.setTracker _ hc (.inl rfl)
    unfold State.judgeCapture
    split
    · exact hr
    · split
      · exact hr.plausibleCapture _ (by simpa using hc)
      · exact hr
  exact hjudged.classifyFrequency _ (by simpa using hc)

theorem Moves.loseSync (h : Moves c s t) (hc : t.port.config = some cfg) : Moves c s (t.loseSync cfg) := by
  have hsampler : Moves c s (t.setSampler (t.sampler.lossNotice cfg t.time)) :=
    h.setSampler _ hc (by unfold Sampler.lossNotice; split <;> simp_all)
  exact ((hsampler.move (.loseLock _ cfg (by simpa using hc))).count .syncLoss).classifySyncLoss (by simpa using hc)

/-! ### A figure set and its neighbours as moves -/

/-- An angle on its way to the generator is one that the regulator has put out (R156, R161). -/
def Delivery.AngleProduced (d : Delivery) (cfg : Configuration) : Prop := ∀ a ∈ d.angle, ∃ u, a = angleOf cfg u

theorem Delivery.noteRelease_angle (d : Delivery) (before : StationState) :
    (d.noteRelease before).angle = d.angle := by
  unfold Delivery.noteRelease
  split <;> rfl

theorem Delivery.act_angleProduced (r : FigureReport) (d : Delivery) (n : Neighbour) (h : d.AngleProduced cfg) :
    (d.act cfg r n).AngleProduced cfg := by
  cases n <;> dsimp only [Delivery.act]
  case classifier => exact h
  case overcurrent => exact h
  case overTemperature => exact h
  case controller => exact h
  case regulator =>
    split
    · exact h
    · unfold Delivery.regulate
      split
      · dsimp only
        split
        · rintro a ⟨⟩
          exact ⟨_, rfl⟩
        · exact h
        · exact h
      · exact h
  case generator =>
    split
    · exact h
    · simp [Delivery.AngleProduced, Delivery.generate]

theorem Moves.latchProduced (h : Moves c s t) (angle : Option Nat) (hc : t.port.config = some cfg)
    (ha : ∀ a ∈ angle, ∃ u, a = angleOf cfg u) : Moves c s (t.setGates (t.gates.latch angle)) := by
  cases angle with
  | none => exact h
  | some a =>
    obtain ⟨u, rfl⟩ := ha a rfl
    exact h.move (.latch t cfg u hc)

theorem Moves.act {d : Delivery} (h : Moves c s d.state) (r : FigureReport) (n : Neighbour)
    (hc : d.state.port.config = some cfg) (ha : d.AngleProduced cfg)
    (hk : ∀ b ∈ r.boundary, d.state.tracker.state = .locked) : Moves c s (d.act cfg r n).state := by
  cases n <;> dsimp only [Delivery.act]
  case classifier => exact h.classifyFigure _ _ hc
  case overcurrent =>
    split
    · exact h.trip _ hc
    · exact h
  case overTemperature =>
    split
    · exact h.trip _ hc
    · exact h
  case controller => exact h.boundaryTests hc
  case regulator =>
    split
    · exact h
    · unfold Delivery.regulate
      split
      · have hr := h.move (.regulate d.state cfg
          (min d.state.allocator.setpoint d.state.sampler.figures.capability) d.state.sampler.figures.current hc)
        dsimp only
        split
        · exact hr
        · exact hr.latchProduced _ (by simpa using hc) (by rintro a ⟨⟩; exact ⟨_, rfl⟩)
        · exact hr
      · exact h
  case generator =>
    split
    · exact h
    · rename_i b hb
      have hs := h.move (.schedule d.state cfg d.state.tracker.period b hc (hk b hb))
      exact hs.latchProduced _ (by simpa using hc) ha

theorem Moves.passAll (r : FigureReport) (order : List Neighbour) :
    ∀ {d : Delivery}, Moves c s d.state → d.state.port.config = some cfg → d.AngleProduced cfg →
      (∀ b ∈ r.boundary, d.state.tracker.state = .locked) →
      Moves c s (order.foldl (Delivery.pass cfg r) d).state := by
  induction order with
  | nil => exact fun h _ _ _ => h
  | cons n rest ih =>
    intro d h hc ha hk
    obtain ⟨-, -, htracker, -, -, -, -, hport⟩ := Delivery.pass_frame cfg r d n
    refine ih (d := d.pass cfg r n) ?_ (by rw [hport]; exact hc) ?_ (by rw [htracker]; exact hk)
    · simpa [Delivery.pass] using h.act r n hc ha hk
    · intro a hm
      exact Delivery.act_angleProduced r d n ha a (by simpa [Delivery.pass, Delivery.noteRelease_angle] using hm)

theorem Sampler.nextSector_mode (m : Sampler) (cfg : Configuration) (start : Micros) (base : Nat)
    (plant : PlantInputs) : (m.nextSector cfg start base plant).mode = m.mode := by
  unfold Sampler.nextSector
  split
  · rfl
  · dsimp only
    split <;> rfl

theorem Moves.takeBoundary (h : Moves c s t) (b : Option Boundary) (start : Micros) (base : Nat)
    (plant : PlantInputs) (order : List Neighbour) (hc : t.port.config = some cfg)
    (hk : ∀ x ∈ b, t.tracker.state = .locked) :
    Moves c s (t.takeBoundary cfg b start base plant order) := by
  have hformed : Moves c s (t.formFigureSet cfg) :=
    (h.setSampler (t.sampler.closeSector cfg) hc id).move (.allocator _ cfg _ hc)
  refine Moves.setSampler (cfg := cfg) (Moves.passAll (cfg := cfg) (t.figureReport cfg b) (deliveryOrder order)
    (d := ⟨t.formFigureSet cfg, none, .awaited⟩) hformed (by simpa using hc)
    (by simp [Delivery.AngleProduced]) (by simpa [State.figureReport] using hk)) _ ?_ ?_
  · simpa [Delivery.passAll_frame] using hc
  · rw [Sampler.nextSector_mode]
    exact id

/-! ### The allocator's operations as moves -/

theorem Moves.setAllocator (h : Moves c s t) (a : Allocator) (hc : t.port.config = some cfg) :
    Moves c s (t.setAllocator a) := h.move (.allocator _ _ _ hc)

theorem Moves.placeShare (h : Moves c s t) (body : ShareBody) (hc : t.port.config = some cfg)
    (ho : t.station.state ≠ .off) : Moves c s (t.placeShare body) := by
  have hmove := (h.countIf t.line.shareSlot.isSome .txDropped).move
    (.share _ cfg body (by simpa using hc) (by simpa using ho))
  simpa [State.placeShare] using hmove

theorem Moves.runShareUpdate (h : Moves c s t) (hc : t.port.config = some cfg) (ho : t.station.state ≠ .off) :
    Moves c s (t.runShareUpdate cfg) := by
  have hplaced : Moves c s (t.allocate cfg) := by
    unfold State.allocate
    refine Moves.placeShare (cfg := cfg) (Moves.countIf (Moves.countIf (h.setAllocator _ hc) _ _) _ _) _ ?_ ?_
    · simpa using hc
    · simpa using ho
  exact hplaced.endOfUpdate _ (by simpa using hc)

theorem StationState.ne_off_of_updates {x : StationState} (h : x.updates = true) : x ≠ .off := by
  rintro rfl
  exact absurd h (by decide)

theorem Moves.shareExpiry (h : Moves c s t) (hc : t.port.config = some cfg) : Moves c s (t.shareExpiry cfg) := by
  unfold State.shareExpiry
  split
  · exact h
  · dsimp only
    split
    · exact Moves.runShareUpdate (h.setAllocator _ hc) (by simpa using hc)
        (StationState.ne_off_of_updates (by simpa using ‹_›))
    · exact h.setAllocator _ hc

theorem Moves.earlyUpdate (h : Moves c s t) (hc : t.port.config = some cfg) : Moves c s (t.earlyUpdate cfg) := by
  unfold State.earlyUpdate
  split
  · rename_i hadmitted
    exact Moves.runShareUpdate (h.setAllocator _ hc) (by simpa using hc)
      (StationState.ne_off_of_updates (Bool.and_eq_true _ _ ▸ hadmitted).1)
  · exact h

/-! ### The Peer Table's and the filter's operations as moves -/

theorem Moves.setPeers (h : Moves c s t) (x : List Peer) (hc : t.port.config = some cfg) :
    Moves c s (t.setPeers x) := h.move (.peers _ _ _ hc)

theorem Moves.acceptLeave (h : Moves c s t) (n : Nat) (hc : t.port.config = some cfg) :
    Moves c s (t.acceptLeave n) := (h.setPeers _ hc).count _

theorem Moves.acceptFrame (h : Moves c s t) (f : Frame) (hc : t.port.config = some cfg) :
    Moves c s (t.acceptFrame f) := by
  have hfields (missed : Nat → Nat) : Moves c s (t.acceptFields f missed) := h.setPeers _ hc
  unfold State.acceptFrame
  split
  · unfold State.acceptNew
    split
    · exact h
    all_goals exact (h.setPeers _ hc).count _
  · split
    · unfold State.acceptFlagged
      split
      · exact h.acceptLeave _ hc
      all_goals exact (hfields _).count _
    · unfold State.acceptUnflagged
      split
      · exact h.acceptLeave _ hc
      all_goals
        split
        · exact hfields _
        · split
          · exact (hfields _).count _
          · exact (hfields _).count _

theorem Moves.handOver (h : Moves c s t) (f : Frame) (hc : t.port.config = some cfg) :
    Moves c s (t.handOver cfg f) := by
  have hcounted : Moves c s (t.setFilter (t.filter.countVerdict (t.verdict f))) :=
    h.move (.filter _ _ (by cases t.verdict f <;> rfl) (by cases t.verdict f <;> rfl))
  unfold State.handOver
  dsimp only
  split
  · split
    · exact (hcounted.acceptFrame (cfg := cfg) f (by simpa using hc)).earlyUpdate (by simpa using hc)
    · exact hcounted.acceptFrame (cfg := cfg) f (by simpa using hc)
  all_goals exact hcounted

theorem Moves.filterFrame (h : Moves c s t) (bytes : List Byte) (malformed : Bool)
    (hc : t.port.config = some cfg) : Moves c s (t.filterFrame cfg bytes malformed) := by
  unfold State.filterFrame
  split
  · exact Moves.count (h.move (.filter _ { t.filter with checkErrors := t.filter.checkErrors + 1 } rfl rfl)) _
  · unfold State.passFrame
    split
    · exact h.trip _ hc
    · split
      · exact h.move (.filter _ _ rfl rfl)
      · exact h.handOver _ hc

theorem Moves.takeForgetPeer (h : Moves c s t) (n : Nat) (hc : t.port.config = some cfg) :
    Moves c s (t.takeForgetPeer cfg n) := by
  unfold State.takeForgetPeer
  split
  · exact h.answer _
  · split
    · exact h.answer _
    · split
      · exact h.answer _
      · exact h.answer _
      · exact (h.acceptLeave n hc).answer _

/-! ### The line's operations as moves -/

/-- A line operation that touches no frame that waits. -/
theorem Moves.relay (h : Moves c s t) (l : ShareLine) (hl : t.line.Relays l)
    (hv : l.view = .inactive → t.line.view = .inactive)
    (hn : t.port.config = none → t.line.view = .inactive → l.view = .inactive) : Moves c s (t.setLine l) :=
  h.move (.line _ _ hl hv hn)

theorem Moves.receiveCharacter (h : Moves c s t) (x : Character) (hc : t.port.config = some cfg) :
    Moves c s (t.receiveCharacter cfg x) := by
  have hbusy (a : Option Assembly) : Moves c s (t.setLine { t.line with view := .busy, assembly := a }) :=
    h.relay _ ⟨.inl rfl, rfl, .inl rfl, by simp, .inl rfl⟩ (by simp) (by simp [hc])
  unfold State.receiveCharacter
  dsimp only
  split
  · exact (hbusy none).filterFrame _ _ (by simpa using hc)
  · exact hbusy _

theorem Moves.receiveCharacters (xs : List Character) :
    ∀ {t : State}, Moves c s t → t.port.config = some cfg → Moves c s (t.receiveCharacters cfg xs) := by
  induction xs with
  | nil => exact fun h _ => h
  | cons x rest ih => exact fun h hc => ih (h.receiveCharacter x hc) (by simpa using hc)

theorem Moves.abandonFrame (h : Moves c s t) (a : Assembly) (hc : t.port.config = some cfg) :
    Moves c s (t.abandonFrame cfg a) :=
  Moves.filterFrame (h.relay (ShareLine.quieten { t.line with assembly := none } t.time)
    ⟨.inl rfl, rfl, .inl rfl, by simp [ShareLine.quieten], .inl rfl⟩ (by simp [ShareLine.quieten]) (by simp [hc]))
    _ _ (by simpa using hc)

theorem Moves.collide (h : Moves c s t) (xs : List Character) (hc : t.port.config = some cfg) :
    Moves c s (t.collide cfg xs) := by
  have haborted : Moves c s ((t.setLine t.line.abort).count .collision) :=
    (h.relay t.line.abort ⟨.inl rfl, rfl, .inr rfl, by simp [ShareLine.abort], .inl rfl⟩ id (fun _ => id)).count _
  unfold State.collide
  dsimp only
  split
  · exact Moves.receiveCharacters xs (haborted.trip _ (by simpa using hc)) (by simpa using hc)
  · exact Moves.receiveCharacters xs haborted (by simpa using hc)

/-! ### The port's operations as moves -/

theorem Moves.setPort (h : Moves c s t) (p : SupervisorPort) (hp : p.config = t.port.config) :
    Moves c s (t.setPort p) := h.move (.port _ _ hp)

theorem Moves.judge (h : Moves c s t) (message : List Byte) : Moves c s (t.judge message) := by
  unfold State.judge
  split
  · exact h
  · split
    · exact h
    · split
      · exact h
      · split
        · exact h.answer _
        · split
          · exact h.answer _
          · unfold State.judgeComplete
            split
            · exact h.answer _
            · split
              · exact h.answer _
              · split
                · exact h.answer _
                · exact h.setPort _ rfl

theorem Moves.takeLoadConfig (h : Moves c s t) (p : List Byte) (plant : PlantInputs) :
    Moves c s (t.takeLoadConfig p plant) := by
  unfold State.takeLoadConfig
  split
  · exact h.answer _
  · split
    · exact h.answer _
    · split
      · exact h.answer _
      · rename_i hl hn _ hf
        exact Moves.answer (h.move (.load t p plant (by simpa using hn) (by simpa using hl) hf)) _

theorem Moves.takeSetDemand (h : Moves c s t) (value : Nat) (hc : t.port.config = some cfg) :
    Moves c s (t.takeSetDemand cfg value) := ((h.setAllocator _ hc).countIf _ _).answer _

theorem Moves.takeAckEvents (h : Moves c s t) (pairs : List (Nat × Nat)) : Moves c s (t.takeAckEvents pairs) := by
  unfold State.takeAckEvents
  split
  · exact h.answer _
  · exact Moves.answer (h.move (.acknowledge _ _)) _

theorem Moves.protectionAction (h : Moves c s t) (n : Fin 4) (a : ProtectionAction)
    (hc : t.port.config = some cfg) : Moves c s (t.protectionAction cfg n a) := by
  cases a
  · exact h.trip _ hc
  · exact h.protectionStandby hc
  · exact h.count _

theorem Moves.takeSample (h : Moves c s t) (n : Fin 4) (level : Bool) : Moves c s (t.takeSample n level) := by
  have hsampled : Moves c s (t.sampleInput n level) := h.move (.protection _ _)
  rcases t.takeSample_cases n level with heq | ⟨cfg, hc, -, heq⟩
  · rw [heq]
    exact hsampled
  · rw [heq]
    exact hsampled.protectionAction n _ (by simpa using hc)

theorem Moves.supervisorReset (h : Moves c s t) : Moves c s t.supervisorReset := by
  have hzeroed : Moves c s (((t.setPort t.port.supervisorReset).setEvents t.events.zero).setFilter t.filter.zero) :=
    ((h.setPort t.port.supervisorReset rfl).move (.zeroEvents _)).tail (.filter _ _ rfl rfl)
  have hmark {u : State} (hu : Moves c s u) : Moves c s (u.setLine u.line.resetMark) :=
    hu.relay _ ⟨.inl rfl, rfl, .inl rfl, by simp [ShareLine.resetMark], .inr rfl⟩ id (fun _ => id)
  unfold State.supervisorReset State.configured
  dsimp only
  split
  · exact hmark hzeroed
  · rename_i hc
    exact hmark (hzeroed.resetStation hc)

/-! ### Commands and steps as moves -/

/-- An effect that needs the configuration, read as moves. -/
theorem Moves.configured (h : Moves c s t) (f : Configuration → State)
    (hf : ∀ cfg, t.port.config = some cfg → Moves c s (f cfg)) : Moves c s (t.configured f) := by
  unfold State.configured
  split
  · exact h
  · exact hf _ ‹_›

/-- A request of an owner other than the port, read as moves. -/
theorem Moves.takeConfigured (h : Moves c s t) (f : Configuration → State)
    (hf : ∀ cfg, t.port.config = some cfg → Moves c s (f cfg)) : Moves c s (t.takeConfigured f) := by
  unfold State.takeConfigured
  split
  · exact h.answer _
  · exact hf _ ‹_›

/-- A guarded effect, read as moves. -/
theorem Moves.ite {p : Prop} [Decidable p] {u v : State} (hu : p → Moves c s u) (hv : Moves c s v) :
    Moves c s (if p then u else v) := by
  split
  · exact hu ‹_›
  · exact hv

/-- A command that needs the configuration and acts when its event has come about. -/
theorem Moves.whenDue (h : Moves c s t) (due : Configuration → Bool) (act : Configuration → State)
    (hact : ∀ cfg, t.port.config = some cfg → due cfg = true → Moves c s (act cfg)) :
    Moves c s (t.configured fun cfg => if due cfg then act cfg else t) :=
  h.configured _ fun cfg hc => Moves.ite (hact cfg hc) h

end

/-- Every command is a run of elementary moves. -/
theorem exec_moves (c : Instr) (s t : State) (hexec : exec c s = .next t) : Moves (some c) s t := by
  have h : Moves (some c) s s := .refl
  cases c <;> obtain rfl := Host.Outcome.next.inj hexec
  case powerOnReset => exact h.move (.reset s rfl)
  case srst => exact h.supervisorReset
  case transferStart =>
    exact Moves.ite (fun _ => h.setPort _ (by unfold SupervisorPort.beginTransfer; split <;> rfl)) h
  case transferEnd =>
    split
    · exact h
    · exact Moves.judge (h.setPort { s.port with transfer := none, sdo := [] } rfl) _
  case loadConfig plant =>
    split
    · exact h.takeLoadConfig _ plant
    · exact h
  case setDemand =>
    split
    · exact h.takeConfigured _ fun _ hc => h.takeSetDemand _ hc
    · exact h
  case readStatus =>
    exact Moves.ite (fun _ => Moves.answer (h.relay s.line.resetMark
      ⟨.inl rfl, rfl, .inl rfl, by simp [ShareLine.resetMark], .inr rfl⟩ id (fun _ => id)) _) h
  case start => exact Moves.ite (fun _ => h.takeConfigured _ fun _ hc => h.takeStart hc) h
  case stop => exact Moves.ite (fun _ => h.takeConfigured _ fun _ hc => h.takeStop hc) h
  case standby => exact Moves.ite (fun _ => h.takeConfigured _ fun _ hc => h.takeStandby hc) h
  case clearFault => exact Moves.ite (fun _ => h.takeConfigured _ fun _ hc => h.takeClearFault hc rfl) h
  case readPeer =>
    split
    · exact h.takeConfigured _ fun _ _ => h.answer _
    · exact h
  case forgetPeer =>
    split
    · exact h.takeConfigured _ fun _ hc => h.takeForgetPeer _ hc
    · exact h
  case readEvents => exact Moves.ite (fun _ => h.takeConfigured _ fun _ _ => h.answer _) h
  case ackEvents =>
    split
    · exact h.takeConfigured _ fun _ _ => h.takeAckEvents _
    · exact h
  case readFault => exact Moves.ite (fun _ => h.takeConfigured _ fun _ _ => h.answer _) h
  case capture => exact h.configured _ fun _ hc => h.capture hc
  case lossOfSync => exact h.whenDue (fun _ => s.lossDue) _ fun _ hc _ => h.loseSync hc
  case sectorBoundary plant order =>
    refine h.whenDue (fun _ => s.boundaryDue) _ fun cfg hc hdue => ?_
    have hlocked : s.tracker.state = .locked := of_decide_eq_true (Bool.and_eq_true _ _ ▸ hdue).1
    unfold State.issueBoundary
    split
    · exact h
    · rename_i b _
      exact Moves.takeBoundary (cfg := cfg) (h.setTracker (s.tracker.issue cfg b s.time) hc (.inl rfl)) (some b) _ _ _ _
        (by simpa using hc) (by simpa [Tracker.issue] using hlocked)
  case freeRunningBoundary plant order =>
    refine h.whenDue (fun _ => s.freeBoundaryDue) _ fun cfg hc _ => ?_
    unfold State.freeBoundary
    split
    · exact h
    · rename_i due _
      exact Moves.takeBoundary (cfg := cfg)
        (h.setSampler { s.sampler with freeTimer := some (afterMicros due (nominalSector cfg)) } hc id) none _ _ _ _
        (by simpa using hc) (by simp)
  case sample plant => exact h.whenDue (fun _ => s.sampleDue) _ fun _ hc _ => h.setSampler _ hc id
  case recoveryConfirmTimerExpiry => exact h.whenDue s.confirmDue _ fun _ hc _ => h.recovered hc
  case frequencyTimerExpiry => exact h.whenDue s.frequencyTimerDue _ fun _ hc _ => h.goOutside _ hc
  case blockedTimerExpiry =>
    refine h.whenDue s.blockedTimerDue _ fun _ hc hdue => h.blockTimeout hc ?_
    exact of_decide_eq_true (Bool.and_eq_true _ _ ▸ hdue).1
  case lowLoadTimerExpiry =>
    refine h.whenDue s.lowLoadDue _ fun cfg hc hdue => h.lowLoadExpire hc ?_
    simp only [State.lowLoadDue, Bool.and_eq_true, decide_eq_true_eq] at hdue
    exact hdue.1.1
  case shareUpdate => exact h.whenDue (fun _ => s.shareDue) _ fun _ hc _ => h.shareExpiry hc
  case protectionEdge n level => exact Moves.ite (fun _ => h) (h.takeSample n level)
  case firing => exact h.whenDue (fun _ => s.firingDue) _ fun _ hc _ => h.move (.fire _ _ hc)
  case pulseEnd g => exact Moves.ite (fun _ => h.move (.pulseEnd _ _)) h
  case seekingEnd =>
    exact Moves.ite (fun hv => h.relay _ ⟨.inl rfl, rfl, .inl rfl, by simp [ShareLine.quieten], .inl rfl⟩
      (by simp [ShareLine.quieten]) (by simp [hv])) h
  case lineBusy =>
    refine Moves.ite (fun ⟨hr, _⟩ => h.relay _ ⟨.inl rfl, rfl, .inl rfl, by simp, .inl rfl⟩ (by simp) ?_) h
    intro _ hv
    simp [ShareLine.receiving, hv] at hr
  case interframeGapEnd =>
    exact Moves.ite (fun ⟨hv, _⟩ => h.relay _ ⟨.inl rfl, rfl, .inl rfl, by simp [ShareLine.quieten], .inl rfl⟩
      (by simp [ShareLine.quieten]) (by simp [hv])) h
  case frameAbandoned =>
    refine h.configured _ fun cfg hc => ?_
    split
    · exact h
    · exact Moves.ite (fun _ => h.abandonFrame _ hc) h
  case frameReceived xs => exact h.whenDue (fun _ => s.line.receiving) _ fun _ hc _ => Moves.receiveCharacters xs h hc
  case accessSlot => exact h.configured _ fun cfg hc => Moves.ite (fun _ => h.move (.slot _ _ hc)) h
  case frameCompleted =>
    exact Moves.ite (fun _ => h.relay s.line.complete
      ⟨.inl rfl, rfl, .inr rfl, by simp [ShareLine.complete], .inl rfl⟩ id (fun _ => id)) h
  case collision xs =>
    refine h.configured _ fun cfg hc => ?_
    split
    · exact h
    · exact Moves.ite (fun _ => h.collide xs hc) h
  case alertExpiry =>
    exact Moves.ite (fun _ => Moves.count (h.relay { s.line with alertQueue := s.line.alertQueue.drop 1 }
      ⟨.inr rfl, rfl, .inl rfl, by simp, .inl rfl⟩ id (fun _ => id)) _) h
  case peerSilent n =>
    exact h.whenDue (fun cfg => s.silentDue cfg n) _ fun _ hc _ => Moves.count (h.setPeers _ hc) _
  case peerLost n =>
    exact h.whenDue (fun cfg => s.lostDue cfg n) _ fun _ hc _ => Moves.count (h.setPeers _ hc) _
  case srstRelease => exact h.setPort _ rfl

/-- Every step is a run of elementary moves under the command at the front of the queue. -/
theorem step_moves (s t : State) (h : step s = .next t) : Moves s.pending.head? s t := by
  unfold step at h
  split at h
  case h_1 hp =>
    obtain rfl := Host.Outcome.next.inj h
    unfold State.idle
    split
    · exact .refl
    · exact .single (.elapse s 1)
  case h_2 cmd rest hp =>
    rw [hp]
    exact Relation.ReflTransGen.head (.queue s rest) (exec_moves cmd _ t h)

end Sys2Proof.Machine
end

section
/-! SUPPORT. The configuration, and what goes with it, through every move (R3, R190, R192). -/

namespace Sys2Proof.Machine

/-! ### An accepted LOAD CONFIG lies in the ranges of R190 -/

theorem envelopePoints_length (bytes : List Byte) : (envelopePoints bytes).length = bytes.length / 4 := by
  induction bytes using envelopePoints.induct with
  | case1 t1 t0 v1 v0 rest ih =>
    simp only [envelopePoints, List.length_cons, ih]
    omega
  | case2 bytes hshort =>
    match bytes, hshort with
    | [], _ => rfl
    | [_], _ => simp [envelopePoints]
    | [_, _], _ => simp [envelopePoints]
    | [_, _, _], _ => simp [envelopePoints]
    | t1 :: t0 :: v1 :: v0 :: rest, hshort => exact absurd rfl (hshort t1 t0 v1 v0 rest)

/-- The points read are as many as the count says, up to the eight that the field holds (R191). -/
theorem envelopeOf_length (p : List Byte) (hl : p.length = 115) (hn : envelopeCount p ≤ 8) :
    (envelopeOf p).length = envelopeCount p := by
  have hfield : (fieldBytes p 28).length = 33 := by simp [fieldBytes, fieldWidths, hl]
  simp only [envelopeOf, List.length_take, envelopePoints_length, List.length_drop, hfield]
  omega

/-- Without a fault every check of R190 has passed. -/
theorem configurationChecks_of_noFault (p : List Byte) (hf : configurationFault p = none) :
    ∀ x ∈ configurationChecks p, x.2 = true := by
  intro x hx
  have hnone := Option.map_eq_none_iff.mp hf
  simpa using List.find?_eq_none.mp hnone x hx

theorem configurationOf_inRange (p : List Byte) (hl : p.length = 115) (hf : configurationFault p = none) :
    configurationInRange (configurationOf p) = true := by
  have h := configurationChecks_of_noFault p hf
  simp only [configurationChecks, List.cons_append, List.nil_append, List.forall_mem_cons, Bool.and_eq_true] at h
  obtain ⟨h1, h2, h3, h4, h5, h6, h7, h8, h9, h10, h11, h12, h13, h14, -, h16, h17, h18, h19, h20, h21, -, h23, h24,
    h25, h26, h27, ⟨h28, h28'⟩, h29, h30, h31, h32, h33, h34, h35, h36, h37, h38, h39, h40, h41, -, -, -⟩ := h
  have henv : (envelopeOf p).length = envelopeCount p := envelopeOf_length p hl ((within_iff _ _ _).mp h28).2
  simp only [configurationInRange, configurationOf, henv, Bool.and_eq_true, and_assoc]
  exact ⟨h1, h2, h3, h4, h5, h6, h7, h8, h9, h10, h11, h12, h13, h14, h16, h17, h18, h19, h20, h21, h23, h24, h25,
    h26, h27, h28, h28', h29, h30, h31, h32, h33, h34, h35, h36, h37, h38, h39, h40, h41⟩

/-! ### The invariant -/

/-- The blocks that go with the configuration are as before, as far as the invariant sees them. -/
theorem State.ConfigurationSound.congr {s t : State} (hs : s.ConfigurationSound)
    (hport : t.port.config = s.port.config) (hstation : t.station.state = s.station.state)
    (hsampler : t.sampler.mode = s.sampler.mode) (hclassifier : t.classifier.state = s.classifier.state)
    (hview : t.line.view = s.line.view) (hfilter : t.filter = s.filter) : t.ConfigurationSound := by
  simpa only [State.ConfigurationSound, hport, hstation, hsampler, hclassifier, hview, hfilter] using hs

/-- A configured part is as before, as far as the invariant sees it, but for blocks that stay active. -/
theorem State.ConfigurationSound.active {s t : State} {cfg : Configuration} (hs : s.ConfigurationSound)
    (hc : s.port.config = some cfg) (hport : t.port.config = s.port.config)
    (hstation : s.station.state ≠ .unconfigured → t.station.state ≠ .unconfigured)
    (hsampler : s.sampler.mode ≠ .idle → t.sampler.mode ≠ .idle)
    (hclassifier : s.classifier.state ≠ .inactive → t.classifier.state ≠ .inactive)
    (hview : s.line.view ≠ .inactive → t.line.view ≠ .inactive) (hfilter : t.filter = s.filter) :
    t.ConfigurationSound := by
  obtain ⟨h1, h2, h3, h4, h5, h6⟩ := hs
  have hn : s.port.config ≠ none := by simp [hc]
  unfold State.ConfigurationSound
  rw [hport, hfilter]
  exact ⟨h1, by simpa [hn] using hstation (mt h2.mp hn), by simpa [hn] using hsampler (mt h3.mp hn),
    by simpa [hn] using hclassifier (mt h4.mp hn), by simpa [hn] using hview (mt h5.mp hn), h6⟩

theorem Classifier.elapse_state (x : Classifier) (cfg : Configuration) (now : Micros) (us : Nat) :
    (x.elapse cfg now us).state = x.state := by
  unfold Classifier.elapse
  split <;> rfl

/-- The passing of time leaves the classifier's state and all of the line but the slot. -/
theorem State.elapse_classifier_line (s : State) (us : Nat) :
    (s.elapse us).classifier.state = s.classifier.state ∧
    ∃ taken, (s.elapse us).line = { s.line with slotTaken := taken } := by
  unfold State.elapse State.elapseConfigured State.configured
  split
  · exact ⟨rfl, s.line.slotTaken, rfl⟩
  · exact ⟨Classifier.elapse_state .., false, rfl⟩

theorem ShareLine.enter_view (l : ShareLine) (left entered : StationState) (now : Micros) :
    (l.enter left entered now).view = l.view := by
  unfold ShareLine.enter
  (repeat' split) <;> rfl

theorem ShareLine.takeSlot_view (l : ShareLine) (cfg : Configuration) (now : Micros)
    (h : l.view ≠ .inactive) : (l.takeSlot cfg now).view ≠ .inactive := by
  rcases l.takeSlot_cases cfg now with ⟨-, heq⟩ | ⟨body, -, heq⟩
  · rw [heq]
    exact h
  · rw [heq]
    simp [ShareLine.startFrame]

/-- What queueing an ALERT does at the line (R83). -/
theorem State.queueAlert_line (s : State) (kind : AlertKind) :
    (s.queueAlert kind).line = s.line ∨
    s.line.alertQueue.length < 4 ∧
      (s.queueAlert kind).line = s.line.join (.alert (s.alertBody kind)) s.time := by
  unfold State.queueAlert State.queueFrame
  split
  · exact .inr ⟨‹_›, rfl⟩
  · exact .inl rfl

theorem State.reset_configurationSound (pending : List Instr) (p : SupervisorPort) (hp : p.config = none) :
    ((State.reset.setPending pending).setPort p).ConfigurationSound := by
  unfold State.ConfigurationSound
  simp [hp]
  decide

theorem State.accept_configurationSound (s : State) (cfg : Configuration) (plant : PlantInputs)
    (h : configurationInRange cfg = true) : (s.acceptConfiguration cfg plant).ConfigurationSound := by
  unfold State.ConfigurationSound State.acceptConfiguration
  have hsampler : (s.sampler.activate cfg s.time plant).mode = .free := by
    unfold Sampler.activate
    dsimp only
    split <;> rfl
  simp [h, hsampler, Classifier.activate, ShareLine.activate, FrameFilter.activate]

theorem Move.keepsConfiguration {c : Option Instr} {s t : State} (h : Move c s t) (hs : s.ConfigurationSound) :
    t.ConfigurationSound := by
  cases h
  case reset => exact State.reset_configurationSound _ _ rfl
  case load p plant hn hl hf => exact s.accept_configurationSound _ _ (configurationOf_inRange p hl hf)
  case elapse us =>
    obtain ⟨hclassifier, taken, hline⟩ := s.elapse_classifier_line us
    exact hs.congr (by simp) (by simp) (by simp) hclassifier (by rw [hline]) (by simp)
  case port p hp => exact hs.congr hp rfl rfl rfl rfl rfl
  case filter m hstation hgroup =>
    obtain ⟨h1, h2, h3, h4, h5, h6, h7⟩ := hs
    exact ⟨h1, h2, h3, h4, h5, hstation.trans h6, hgroup.trans h7⟩
  case sampler cfg m hc hm => exact hs.active hc rfl id (mt hm) id id rfl
  case classifier cfg x hc hx => exact hs.active hc rfl id id (mt hx) id rfl
  case line l hrelay hv hn =>
    obtain ⟨h1, h2, h3, h4, h5, h6⟩ := hs
    exact ⟨h1, h2, h3, h4, ⟨fun hi => h5.mp (hv hi), fun hno => hn hno (h5.mpr hno)⟩, h6⟩
  case slot cfg hc => exact hs.active hc rfl id id id (ShareLine.takeSlot_view _ _ _) rfl
  case alert cfg kind hc ho =>
    have hview : (s.queueAlert kind).line.view = s.line.view := by
      rcases s.queueAlert_line kind with heq | ⟨-, heq⟩ <;> rw [heq]
      rfl
    exact hs.congr (by simp) (by simp) (by simp) (by simp) hview (by simp)
  case fire cfg hc => exact hs.congr (by simp) (by simp) (by simp) (by simp) (by simp) (by simp)
  case enter cfg dest st hc he hdest hfit hheld hsaved =>
    obtain ⟨-, ⟨hconfigured, -⟩, -⟩ := he
    exact hs.active hc (by simp) (by simpa [hdest] using fun _ => hconfigured) (by simp) (by simp)
      (by simp [ShareLine.enter_view]) (by simp)
  case trip cfg cause hc hu ht =>
    exact hs.active hc (by simp) (by simp [State.emptyStack]) (by simp) (by simp)
      (by simp [ShareLine.enter_view]) (by simp)
  case clear cfg hcmd hc ht =>
    exact hs.active hc (by simp) (by simp) (by simp) (by simp) (by simp [ShareLine.enter_view]) (by simp)
  all_goals exact hs.congr rfl rfl rfl rfl rfl rfl

/-- A configuration held stays through every move but POWER_ON_RESET (R192). -/
theorem Move.config_stays {c : Option Instr} {s t : State} {cfg : Configuration} (h : Move c s t)
    (hc : s.port.config = some cfg) (hreset : c ≠ some .powerOnReset) : t.port.config = some cfg := by
  cases h
  case reset hcmd => exact absurd hcmd hreset
  case load hn _ _ => simp [hn] at hc
  case port p hp => exact hp.trans hc
  all_goals simpa using hc

/-- Settles O49: every step is a run of moves, and each keeps the configuration and what goes with it. -/
theorem everyStepKeepsTheConfiguration : Obligations.EveryStepKeepsTheConfiguration := by
  intro s t hs hstep
  have hmoves := step_moves s t hstep
  exact ⟨hmoves.keeps (fun _ _ hm => hm.keepsConfiguration) hs,
    fun cfg hc hreset => hmoves.keeps (fun _ _ hm hc => hm.config_stays hc hreset) hc⟩

end Sys2Proof.Machine
end

section
/-! SUPPORT. What every step keeps at the station, in the Fault Record, at the generator, in the angles and on the line,
each by one case per elementary move. -/

namespace Sys2Proof.Machine

/-! ### The Station Controller (R5, R13, R20, R24) -/

theorem Move.keepsStackFits {c : Option Instr} {s t : State} (h : Move c s t) (hcfg : s.ConfigurationSound)
    (hs : s.station.StackFits) : t.station.StackFits := by
  cases h
  case reset => exact (by decide : Station.reset.StackFits)
  case load p plant hn hl hf =>
    have hstack := hs.stack_eq_nil (by rw [hcfg.2.1.mpr hn]; rfl)
    simp [Station.StackFits, State.acceptConfiguration, hstack, StationState.holdsRecords]
  case enter cfg dest st hc he hdest hfit hheld hsaved => exact hfit hs
  case lowLoad cfg delivered ms hc hstate => exact hs
  case trip cfg cause hc hu ht => simp [Station.StackFits, State.emptyStack, StationState.holdsRecords]
  case clear cfg hcmd hc ht =>
    have hstack := hs.stack_eq_nil (by rw [ht]; rfl)
    simp [Station.StackFits, hstack, StationState.holdsRecords]
  all_goals simpa using hs

theorem Move.keepsHeldWhereUsed {c : Option Instr} {s t : State} (h : Move c s t) (hcfg : s.ConfigurationSound)
    (hs : s.station.HeldWhereUsed) : t.station.HeldWhereUsed := by
  cases h
  case reset => exact (by decide : Station.reset.HeldWhereUsed)
  case load p plant hn hl hf =>
    have hstate := hcfg.2.1.mpr hn
    simpa [Station.HeldWhereUsed, State.acceptConfiguration, hstate] using hs
  case lowLoad cfg delivered ms hc hstate =>
    obtain ⟨h1, h2, h3, h4, h5, h6⟩ := hs
    exact ⟨h1, h2, h3, h4, fun hne => absurd hstate hne, h6⟩
  case redirect cfg hc hstate => simp_all [Station.HeldWhereUsed]
  case enter cfg dest st hc he hdest hfit hheld hsaved => exact hheld
  case trip cfg cause hc hu ht => exact Station.enter_held _ _ _ _ (by decide) (by decide)
  case clear cfg hcmd hc ht => exact Station.enter_held s.station .off s.time s.station.stack (by decide) (by decide)
  all_goals simpa using hs

/-- Settles O50: the controller's fields are kept by every move, with the configuration beside them. -/
theorem everyStepKeepsTheStationSound : Obligations.EveryStepKeepsTheStationSound := by
  intro s t hcfg hfits hheld hstep
  have hkept := (step_moves s t hstep).keeps
    (P := fun x => x.ConfigurationSound ∧ x.station.StackFits ∧ x.station.HeldWhereUsed)
    (fun _ _ hm ⟨h1, h2, h3⟩ => ⟨hm.keepsConfiguration h1, hm.keepsStackFits h1 h2, hm.keepsHeldWhereUsed h1 h3⟩)
    ⟨hcfg, hfits, hheld⟩
  exact hkept.2

/-! ### The Fault Record (R180, R181, R183) -/

/-- A record that is not valid takes the picture; a valid one keeps its own (R180, R181). -/
theorem FaultRecord.take_of_none (f : FaultRecord) (p : TripPicture) (h : f.picture = none) :
    f.take p = ⟨some p, 0⟩ := by
  simp [FaultRecord.take, h]

theorem Move.keepsFaultSound {c : Option Instr} {s t : State} (h : Move c s t) (hcfg : s.ConfigurationSound)
    (hs : s.FaultSound) : t.FaultSound := by
  cases h
  case reset => exact (by decide : State.reset.FaultSound)
  case load p plant hn hl hf =>
    have hstate := hcfg.2.1.mpr hn
    simpa [State.FaultSound, State.acceptConfiguration, hstate] using hs
  case lowLoad cfg delivered ms hc hstate => simpa [State.FaultSound, Station.lowLoadAfter] using hs
  case redirect cfg hc hstate => simpa [State.FaultSound] using hs
  case enter cfg dest st hc he hdest hfit hheld hsaved =>
    obtain ⟨⟨-, hleft⟩, ⟨-, hentered⟩, -⟩ := he
    simpa [State.FaultSound, hdest, hleft, hentered] using hs
  case trip cfg cause hc hu ht =>
    have hnone : s.fault.picture = none := by simpa [ht] using hs.1
    simp [State.FaultSound, State.emptyStack, FaultRecord.take_of_none _ _ hnone]
  case laterTrip cfg hc ht =>
    obtain ⟨h1, h2, h3⟩ := hs
    have hvalid : s.fault.picture ≠ none := h1.mpr ht
    simp [State.FaultSound, FaultRecord.laterTrip, hvalid, ht]
  case clear cfg hcmd hc ht => simp [State.FaultSound, FaultRecord.reset]
  all_goals simpa [State.FaultSound] using hs

/-- A valid picture stays through every move but the clear and the reset (R181, R183). -/
theorem Move.picture_stays {c : Option Instr} {s t : State} (h : Move c s t) (hs : s.FaultSound)
    (hvalid : s.fault.picture ≠ none) (hclear : c ≠ some .clearFault)
    (hreset : c ≠ some .powerOnReset) : t.fault.picture = s.fault.picture := by
  cases h
  case reset hcmd => exact absurd hcmd hreset
  case clear hcmd _ _ => exact absurd hcmd hclear
  case trip ht => exact absurd (hs.1.mp hvalid) ht
  case laterTrip => rfl
  all_goals simp [State.acceptConfiguration]

/-- Settles O58: no move but the clear and the reset ends a valid record, and a trip captures where none is valid. -/
theorem everyStepKeepsTheFaultRecord : Obligations.EveryStepKeepsTheFaultRecord := by
  intro s t hcfg hfault hstep
  have hmoves := step_moves s t hstep
  refine ⟨(hmoves.keeps (P := fun x => x.ConfigurationSound ∧ x.FaultSound)
    (fun _ _ hm ⟨h1, h2⟩ => ⟨hm.keepsConfiguration h1, hm.keepsFaultSound h1 h2⟩) ⟨hcfg, hfault⟩).2, ?_⟩
  intro hvalid hclear hreset
  exact (hmoves.keeps
    (P := fun x => x.ConfigurationSound ∧ x.FaultSound ∧ x.fault.picture = s.fault.picture)
    (fun _ _ hm ⟨h1, h2, h3⟩ => ⟨hm.keepsConfiguration h1, hm.keepsFaultSound h1 h2,
      (hm.picture_stays h2 (h3 ▸ hvalid) hclear hreset).trans h3⟩) ⟨hcfg, hfault, rfl⟩).2.2

/-! ### The generator (R159, R162, R163, R165) -/

@[simp] theorem Gates.doublePulse_kept (g : Gates) (cfg : Configuration) (now : Micros) (n : Fin 6) :
    (g.doublePulse cfg now n).mode = g.mode ∧ (g.doublePulse cfg now n).latched = g.latched ∧
      (g.doublePulse cfg now n).firings = g.firings := ⟨rfl, rfl, rfl⟩

@[simp] theorem Gates.advanceOldest_kept (g : Gates) (cfg : Configuration) (at_ : Micros) :
    (g.advanceOldest cfg at_).mode = g.mode ∧ (g.advanceOldest cfg at_).latched = g.latched := by
  unfold Gates.advanceOldest
  split
  · exact ⟨rfl, rfl⟩
  · split <;> exact ⟨rfl, rfl⟩

/-- The entry scheduled first is one of the list, and a list with entries has one (R162). -/
theorem earliestScheduled_mem (l : List PendingFiring) (hl : l ≠ []) : ∃ f ∈ l, earliestScheduled l = some f := by
  induction l with
  | nil => exact absurd rfl hl
  | cons f rest ih =>
    unfold earliestScheduled
    split
    · exact ⟨f, List.mem_cons_self, rfl⟩
    · rename_i g hg
      have hmem : g ∈ rest := by
        obtain ⟨g', hg', heq⟩ := ih (by rintro rfl; simp [earliestScheduled] at hg)
        rw [hg] at heq
        exact Option.some.inj heq ▸ hg'
      split
      · exact ⟨f, List.mem_cons_self, rfl⟩
      · exact ⟨g, List.mem_cons_of_mem _ hmem, rfl⟩

/-- A full list makes room for one entry (R162). -/
theorem Gates.advanceOldest_length (g : Gates) (cfg : Configuration) (at_ : Micros) (h : g.firings.length ≤ 3) :
    (g.advanceOldest cfg at_).firings.length ≤ 2 := by
  unfold Gates.advanceOldest
  split
  · omega
  · rename_i hfull
    obtain ⟨f, hf, heq⟩ := earliestScheduled_mem g.firings (by intro hnil; simp [hnil] at hfull)
    rw [heq]
    simp only [Gates.doublePulse_kept, List.length_erase_of_mem hf]
    omega

@[simp] theorem Gates.schedule_kept (g : Gates) (cfg : Configuration) (period : Nat) (b : Boundary) :
    (g.schedule cfg period b).mode = g.mode ∧ (g.schedule cfg period b).latched = g.latched := by
  unfold Gates.schedule
  split <;> simp

/-- An INHIBITED generator schedules nothing (R161). -/
theorem Gates.schedule_of_inhibited (g : Gates) (cfg : Configuration) (period : Nat) (b : Boundary)
    (h : g.mode = .inhibited) : g.schedule cfg period b = g := by
  simp [Gates.schedule, h]

/-- A generator holds at most three firings after it has scheduled one (R162). -/
theorem Gates.schedule_length (g : Gates) (cfg : Configuration) (period : Nat) (b : Boundary)
    (h : g.firings.length ≤ 3) : (g.schedule cfg period b).firings.length ≤ 3 := by
  unfold Gates.schedule
  split
  · have := g.advanceOldest_length cfg b.time h
    simp
    omega
  · exact h

theorem State.GatesSound.congr {s t : State} (hs : s.GatesSound) (hg : t.gates = s.gates)
    (hf : s.station.state.firing = true → t.station.state.firing = true)
    (hk : s.tracker.state = .locked → t.tracker.state = .locked) : t.GatesSound := by
  obtain ⟨h1, h2, h3, h4⟩ := hs
  unfold State.GatesSound
  rw [hg]
  exact ⟨h1, h2, fun he => ⟨hf (h3 he).1, (h3 he).2⟩, fun ha => hk (h4 ha)⟩

theorem State.gatesSound_of_block {t : State} (g : Gates) (h : t.gates = g.block) : t.GatesSound := by
  have hidle := g.block_not_active
  unfold State.GatesSound
  rw [h]
  exact ⟨by simp, fun _ => hidle, by simp, fun ha => absurd ha hidle⟩

/-- Some output is still asserted only if it was before an output is deasserted (R164). -/
theorem Gates.active_of_pulseEnd (g : Gates) (n : Fin 6)
    (h : Gates.Active { g with outputs := g.outputs.set n none }) : g.Active := by
  rcases h with h | ⟨i, hi⟩
  · exact .inl h
  · refine .inr ⟨i, fun hn => hi ?_⟩
    by_cases hin : n = i
    · subst hin
      simp
    · simpa [Vector.getElem_set, Fin.val_ne_of_ne hin] using hn

/-- What an entry into a state that neither UNCONFIGURED nor TRIPPED keeps at the generator (R159, R165). -/
theorem State.GatesSound.enter {s t : State} {cfg : Configuration} {dest : StationState} (hs : s.GatesSound)
    (hg : t.gates = (s.enter cfg dest).gates) (hd : t.station.state = dest) (hk : t.tracker = s.tracker)
    (hdest : dest ≠ .unconfigured) : t.GatesSound := by
  cases dest
  case unconfigured => exact absurd rfl hdest
  case off | syncing | blocked | standby | tripped => exact State.gatesSound_of_block _ hg
  case run | ride | stopping => exact hs.congr hg (by simp [hd, StationState.firing]) (by simp [hk])
  case starting | restart =>
    obtain ⟨h1, h2, h3, h4⟩ := hs
    unfold State.GatesSound
    rw [hg, hd, hk]
    exact ⟨h1, by simp [Gates.enter, Gates.release], by simp [Gates.enter, Gates.release, StationState.firing], h4⟩

theorem Move.keepsGatesSound {c : Option Instr} {s t : State} (h : Move c s t) (hcfg : s.ConfigurationSound)
    (hs : s.GatesSound) : t.GatesSound := by
  cases h
  case reset => exact (by decide : State.reset.GatesSound)
  case load p plant hn hl hf =>
    obtain ⟨h1, h2, h3, h4⟩ := hs
    have hinhibited : s.gates.mode = .inhibited := by
      cases hmode : s.gates.mode
      · rfl
      · simp [hcfg.2.1.mpr hn, StationState.firing, hmode] at h3
    exact ⟨h1, h2, by simp [State.acceptConfiguration, hinhibited], fun ha => absurd ha (h2 hinhibited)⟩
  case tracker cfg k hc hk =>
    obtain ⟨h1, h2, h3, h4⟩ := hs
    exact ⟨h1, h2, h3, fun ha => (hk.resolve_right (fun hne => hne (h4 ha))).trans (h4 ha)⟩
  case loseLock cfg hc => exact State.gatesSound_of_block _ rfl
  case schedule cfg period b hc hlocked =>
    obtain ⟨h1, h2, h3, h4⟩ := hs
    refine ⟨s.gates.schedule_length cfg period b h1, fun hi => ?_, fun he => ?_, fun _ => hlocked⟩
    · have hi' : s.gates.mode = .inhibited := by simpa using hi
      simpa [s.gates.schedule_of_inhibited cfg period b hi'] using h2 hi'
    · simpa using h3 (by simpa using he)
  case latch cfg u hc =>
    obtain ⟨h1, h2, h3, h4⟩ := hs
    exact ⟨h1, h2, fun he => ⟨(h3 he).1, by simp [Gates.latch]⟩, h4⟩
  case fire cfg hc =>
    obtain ⟨h1, h2, h3, h4⟩ := hs
    unfold State.fire
    split
    · exact ⟨h1, h2, h3, h4⟩
    · rename_i f rest hf
      have hactive : s.gates.Active := .inl (by simp [hf])
      refine ⟨?_, fun hi => absurd hactive (h2 hi), h3, fun _ => h4 hactive⟩
      rw [hf] at h1
      simp at h1 ⊢
      omega
  case pulseEnd g =>
    obtain ⟨h1, h2, h3, h4⟩ := hs
    exact ⟨h1, fun hi ha => h2 hi (s.gates.active_of_pulseEnd g ha), h3,
      fun ha => h4 (s.gates.active_of_pulseEnd g ha)⟩
  case enter cfg dest st hc he hdest hfit hheld hsaved => exact hs.enter rfl hdest (by simp) he.2.1.1
  case trip cfg cause hc hu ht => exact State.gatesSound_of_block _ rfl
  case clear cfg hcmd hc ht => exact State.gatesSound_of_block _ rfl
  all_goals exact hs.congr (by simp) (by simp [Station.lowLoadAfter]) (by simp)

/-- Settles O57: the generator's rules are kept by every move, with the configuration beside them. -/
theorem everyStepKeepsTheGatesSound : Obligations.EveryStepKeepsTheGatesSound := by
  intro s t hcfg hgates hstep
  exact ((step_moves s t hstep).keeps (P := fun x => x.ConfigurationSound ∧ x.GatesSound)
    (fun _ _ hm ⟨h1, h2⟩ => ⟨hm.keepsConfiguration h1, hm.keepsGatesSound h1 h2⟩) ⟨hcfg, hgates⟩).2

/-! ### The angles (R13, R151, R153, R155, R156, R162) -/

/-- The part of the invariant that is the regulator's: the integrator within its limit, the last output angle within its
limits with its clamp side (R151, R155). -/
abbrev Regulator.Sound (r : Regulator) (cfg : Configuration) : Prop :=
  WithinLimit cfg r.integrator ∧ cfg.alphaMin ≤ r.lastAngle ∧ r.lastAngle ≤ cfg.alphaMax ∧
  r.clampSide = clampSideOf cfg r.lastAngle

theorem withinLimit_zero (cfg : Configuration) : WithinLimit cfg 0 := by
  unfold WithinLimit
  omega

theorem Regulator.update_sound (r : Regulator) (cfg : Configuration) (setpoint current : Nat)
    (hlimits : cfg.alphaMin ≤ cfg.alphaMax) (h : r.Sound cfg) : (r.update cfg setpoint current).Sound cfg :=
  ⟨integrate_bounds _ _ _ _ h.1, (angleOf_bounds _ _ hlimits).1, (angleOf_bounds _ _ hlimits).2, rfl⟩

/-- The integrator commands of an entry keep the regulator within its limits, if the saved integrators are (R153). -/
theorem Regulator.enter_sound (r : Regulator) (cfg : Configuration) (stack : List ContextRecord)
    (dest : StationState) (hlimits : cfg.alphaMin ≤ cfg.alphaMax) (h : r.Sound cfg)
    (hstack : ∀ x ∈ stack, WithinLimit cfg x.integrator) : (r.enter cfg stack dest).Sound cfg := by
  cases dest
  case off | starting => exact ⟨withinLimit_zero cfg, hlimits, Nat.le_refl _, rfl⟩
  case restart =>
    dsimp only [Regulator.enter]
    split
    · exact h
    · rename_i record hrecord
      exact ⟨hstack record (List.mem_of_getLast? hrecord), (angleOf_bounds _ _ hlimits).1,
        (angleOf_bounds _ _ hlimits).2, rfl⟩
  all_goals exact h

/-- An entry latches the entry angle or keeps the latched one (R159). -/
theorem Gates.enter_latched (g : Gates) (angle : Nat) (dest : StationState) :
    (g.enter angle dest).latched = g.latched ∨ (g.enter angle dest).latched = some angle := by
  cases dest
  case starting | restart => exact .inr rfl
  all_goals exact .inl rfl

/-- The angles of a part with a configuration, in the regulator's terms. -/
theorem State.anglesSound_iff {s : State} {cfg : Configuration} (hc : s.port.config = some cfg) :
    s.AnglesSound ↔ s.regulator.Sound cfg ∧ (∀ r ∈ s.station.stack, WithinLimit cfg r.integrator) ∧
      ∀ a ∈ s.gates.latched, cfg.alphaMin ≤ a ∧ a ≤ cfg.alphaMax := by
  simp only [State.AnglesSound, hc, Option.mem_def, Option.some.injEq, forall_eq', reduceCtorEq, false_implies,
    true_and]
  tauto

theorem State.AnglesSound.congr {s t : State} (hs : s.AnglesSound) (hport : t.port.config = s.port.config)
    (hregulator : t.regulator = s.regulator) (hstack : t.station.stack = s.station.stack)
    (hlatched : t.gates.latched = s.gates.latched) : t.AnglesSound := by
  simpa only [State.AnglesSound, hport, hregulator, hstack, hlatched] using hs

/-- What an entry keeps of the angles: the regulator's own, and each record it leaves on the stack (R13, R153, R159). -/
theorem State.AnglesSound.enter {s t : State} {cfg : Configuration} {dest : StationState} (hs : s.AnglesSound)
    (hc : s.port.config = some cfg) (hlimits : cfg.alphaMin ≤ cfg.alphaMax)
    (hport : t.port.config = s.port.config) (hregulator : t.regulator = (s.enter cfg dest).regulator)
    (hgates : t.gates = (s.enter cfg dest).gates)
    (hstack : ∀ r ∈ t.station.stack, r ∈ s.station.stack ∨ r.integrator = s.regulator.integrator) :
    t.AnglesSound := by
  obtain ⟨hreg, hsaved, hlatched⟩ := (State.anglesSound_iff hc).mp hs
  have hentered := Regulator.enter_sound s.regulator cfg s.station.stack dest hlimits hreg hsaved
  refine (State.anglesSound_iff (hport.trans hc)).mpr ⟨hregulator ▸ hentered, fun r hr => ?_, fun a ha => ?_⟩
  · rcases hstack r hr with hr | hr
    · exact hsaved r hr
    · exact hr ▸ hreg.1
  · rw [hgates, State.enter_gates] at ha
    rcases Gates.enter_latched s.gates (s.regulator.enter cfg s.station.stack dest).lastAngle dest with heq | heq
    · exact hlatched a (heq ▸ ha)
    · obtain rfl := Option.some.inj (heq.symm.trans ha)
      exact ⟨hentered.2.1, hentered.2.2.1⟩

theorem State.ConfigurationSound.limits {s : State} {cfg : Configuration} (hs : s.ConfigurationSound)
    (hc : s.port.config = some cfg) : cfg.alphaMin ≤ cfg.alphaMax := by
  have := configurationInRange_bounds cfg (hs.1 cfg hc)
  omega

theorem Move.keepsAnglesSound {c : Option Instr} {s t : State} (h : Move c s t) (hcfg : s.ConfigurationSound)
    (hfits : s.station.StackFits) (hs : s.AnglesSound) : t.AnglesSound := by
  cases h
  case reset => exact ⟨fun _ => ⟨rfl, rfl⟩, by simp [SupervisorPort.reset]⟩
  case load p plant hn hl hf =>
    obtain ⟨hintegrator, hlatched⟩ := hs.1 hn
    have hstack := hfits.stack_eq_nil (by rw [hcfg.2.1.mpr hn]; rfl)
    have hb := configurationInRange_bounds _ (configurationOf_inRange p hl hf)
    refine (State.anglesSound_iff (cfg := configurationOf p) rfl).mpr ⟨⟨?_, ?_, Nat.le_refl _, rfl⟩, ?_, ?_⟩
    · exact hintegrator ▸ withinLimit_zero (configurationOf p)
    · show (configurationOf p).alphaMin ≤ (configurationOf p).alphaMax
      omega
    · simp [State.acceptConfiguration, hstack]
    · simp [State.acceptConfiguration, hlatched]
  case port p hp => exact hs.congr hp rfl rfl rfl
  case regulate cfg setpoint current hc =>
    obtain ⟨hreg, hrest⟩ := (State.anglesSound_iff hc).mp hs
    exact (State.anglesSound_iff (by simpa using hc)).mpr
      ⟨Regulator.update_sound _ cfg _ _ (hcfg.limits hc) hreg, hrest⟩
  case latch cfg u hc =>
    obtain ⟨hreg, hsaved, -⟩ := (State.anglesSound_iff hc).mp hs
    refine (State.anglesSound_iff (by simpa using hc)).mpr ⟨hreg, hsaved, ?_⟩
    rintro a ⟨⟩
    exact angleOf_bounds cfg u (hcfg.limits hc)
  case fire cfg hc =>
    refine hs.congr (by simp) (by simp) (by simp) ?_
    unfold State.fire
    split <;> rfl
  case enter cfg dest st hc he hdest hfit hheld hsaved =>
    exact hs.enter hc (hcfg.limits hc) (by simp) rfl rfl hsaved
  case trip cfg cause hc hu ht =>
    exact hs.enter (dest := .tripped) hc (hcfg.limits hc) (by simp) rfl rfl (by simp [State.emptyStack])
  case clear cfg hcmd hc ht =>
    exact hs.enter (dest := .off) hc (hcfg.limits hc) (by simp) rfl rfl (fun _ hr => .inl hr)
  all_goals exact hs.congr (by simp) (by simp) (by simp [Station.lowLoadAfter]) (by simp)

/-- Settles O56: angles, integrator and saved integrators are kept by every move, with the stack and the configuration
beside them. -/
theorem everyStepKeepsTheAnglesSound : Obligations.EveryStepKeepsTheAnglesSound := by
  intro s t hcfg hfits hangles hstep
  exact ((step_moves s t hstep).keeps
    (P := fun x => x.ConfigurationSound ∧ x.station.StackFits ∧ x.AnglesSound)
    (fun _ _ hm ⟨h1, h2, h3⟩ => ⟨hm.keepsConfiguration h1, hm.keepsStackFits h1 h2, hm.keepsAnglesSound h1 h2 h3⟩)
    ⟨hcfg, hfits, hangles⟩).2.2

/-! ### The line (R7, R8, R83, R85, R88, R90) -/

theorem ShareLine.Relays.sound {l l' : ShareLine} (h : l.Relays l') (hs : l.Sound) : l'.Sound := by
  obtain ⟨h1, h2, h3, h4⟩ := hs
  have hlength : l'.alertQueue.length ≤ l.alertQueue.length := by
    rcases h.queue with heq | heq <;> simp [heq]
  have hcollisions := h.collisions
  unfold ShareLine.Sound
  rcases h.mark with heq | heq <;> omega

/-- What waits in OFF is empty of all but one LEAVE (R90). -/
abbrev ShareLine.OnlyLeaves (l : ShareLine) : Prop :=
  l.shareSlot = none ∧ l.alertQueue.length ≤ 1 ∧ ∀ q ∈ l.alertQueue, q.body = .leave

theorem ShareLine.Relays.onlyLeaves {l l' : ShareLine} (h : l.Relays l') (hs : l.OnlyLeaves) : l'.OnlyLeaves := by
  obtain ⟨h1, h2, h3⟩ := hs
  refine ⟨h.slot.trans h1, ?_, ?_⟩
  · rcases h.queue with heq | heq <;> rw [heq]
    · exact h2
    · exact Nat.le_trans (by simp) h2
  · rcases h.queue with heq | heq <;> rw [heq]
    · exact h3
    · exact fun q hq => h3 q (List.mem_of_mem_drop hq)

/-- A slot taken gives the head of the queue or the SHARE frame away, or nothing (R81, R82). -/
theorem ShareLine.takeSlot_sound (l : ShareLine) (cfg : Configuration) (now : Micros) (h : l.Sound) :
    (l.takeSlot cfg now).Sound := by
  obtain ⟨h1, h2, h3, h4⟩ := h
  rcases l.takeSlot_cases cfg now with ⟨-, heq⟩ | ⟨body, -, heq⟩ <;> rw [heq]
  · exact ⟨h1, h2, h3, h4⟩
  · simp only [ShareLine.Sound, ShareLine.startFrame, List.length_drop]
    omega

theorem ShareLine.takeSlot_onlyLeaves (l : ShareLine) (cfg : Configuration) (now : Micros) (h : l.OnlyLeaves) :
    (l.takeSlot cfg now).OnlyLeaves := by
  obtain ⟨h1, h2, h3⟩ := h
  rcases l.takeSlot_cases cfg now with ⟨-, heq⟩ | ⟨body, -, heq⟩ <;> rw [heq]
  · exact ⟨h1, h2, h3⟩
  · refine ⟨by simp [ShareLine.startFrame, h1], by simp [ShareLine.startFrame]; omega, fun q hq => ?_⟩
    exact h3 q (List.mem_of_mem_drop hq)

/-- An entry keeps the queue's bound and its mark; into OFF a single LEAVE is left (R7, R8). -/
theorem ShareLine.enter_sound (l : ShareLine) (left entered : StationState) (now : Micros) (h : l.Sound) :
    (l.enter left entered now).Sound := by
  obtain ⟨h1, h2, h3, h4⟩ := h
  have hfilter := List.length_filter_le (fun q : QueuedFrame => !q.isLeave) l.alertQueue
  unfold ShareLine.enter
  split
  · split
    · simp only [ShareLine.Sound, ShareLine.join, List.nil_append, List.length_singleton, List.length_nil]
      omega
    · exact ⟨h1, h2, h3, h4⟩
  · split
    · simp only [ShareLine.Sound]
      omega
    · exact ⟨h1, h2, h3, h4⟩

theorem ShareLine.enter_off (l : ShareLine) (left : StationState) (now : Micros) (h : left.sending = true) :
    (l.enter left .off now).OnlyLeaves := by
  simp [ShareLine.enter, h, ShareLine.join, ShareLine.OnlyLeaves]

theorem StationState.sending_of {x : StationState} (hu : x ≠ .unconfigured) (ho : x ≠ .off) : x.sending = true := by
  cases x <;> simp_all [StationState.sending]

theorem Move.keepsLineSound {c : Option Instr} {s t : State} (h : Move c s t) (hs : s.line.Sound) : t.line.Sound := by
  cases h
  case reset => exact (by decide : ShareLine.reset.Sound)
  case load => exact hs
  case elapse us =>
    obtain ⟨-, taken, hline⟩ := s.elapse_classifier_line us
    rw [hline]
    exact hs
  case line l hrelay hv hn => exact hrelay.sound hs
  case slot cfg hc => exact ShareLine.takeSlot_sound _ _ _ hs
  case alert cfg kind hc ho =>
    rcases s.queueAlert_line kind with heq | ⟨hroom, heq⟩ <;> rw [heq]
    · exact hs
    · exact ShareLine.join_sound _ _ _ hs hroom
  case enter cfg dest st hc he hdest hfit hheld hsaved => exact ShareLine.enter_sound _ _ _ _ hs
  case trip cfg cause hc hu ht => exact ShareLine.enter_sound _ _ _ _ hs
  case clear cfg hcmd hc ht => exact ShareLine.enter_sound _ _ _ _ hs
  all_goals simpa using hs

/-- A configured part is as the invariant asks as soon as it holds in OFF alone. -/
theorem State.sendsByState_of_configured {t : State} (hu : t.station.state ≠ .unconfigured)
    (ho : t.station.state = .off → t.line.OnlyLeaves) : t.SendsByState := ⟨fun h => absurd h hu, ho⟩

theorem Move.keepsSendsByState {c : Option Instr} {s t : State} (h : Move c s t) (hcfg : s.ConfigurationSound)
    (hs : s.SendsByState) : t.SendsByState := by
  obtain ⟨hsilent, hoff⟩ := id hs
  have configured {cfg : Configuration} (hc : s.port.config = some cfg) : s.station.state ≠ .unconfigured :=
    fun hu => by simp [hcfg.2.1.mp hu] at hc
  cases h
  case reset => exact (by decide : State.reset.SendsByState)
  case load p plant hn hl hf =>
    obtain ⟨hqueue, hslot, -⟩ := hsilent (hcfg.2.1.mpr hn)
    exact State.sendsByState_of_configured (by simp [State.acceptConfiguration])
      (fun _ => by simp [State.acceptConfiguration, ShareLine.activate, ShareLine.OnlyLeaves, hqueue, hslot])
  case elapse us =>
    obtain ⟨-, taken, hline⟩ := s.elapse_classifier_line us
    simpa [State.SendsByState, hline] using hs
  case line l hrelay hv hn =>
    refine ⟨fun hu => ?_, fun ho => hrelay.onlyLeaves (hoff ho)⟩
    obtain ⟨hqueue, hslot, htransmission⟩ := hsilent hu
    refine ⟨?_, hrelay.slot.trans hslot, ?_⟩
    · rcases hrelay.queue with heq | heq <;> simp [heq, hqueue]
    · rcases hrelay.transmission with heq | heq <;> simp [heq, htransmission]
  case slot cfg hc =>
    exact State.sendsByState_of_configured (configured hc) (fun ho => ShareLine.takeSlot_onlyLeaves _ _ _ (hoff ho))
  case alert cfg kind hc ho =>
    exact State.sendsByState_of_configured (by simpa using configured hc) (fun h => absurd (by simpa using h) ho)
  case share cfg body hc ho => exact State.sendsByState_of_configured (configured hc) (fun h => absurd h ho)
  case lowLoad cfg delivered ms hc hstate =>
    exact State.sendsByState_of_configured (by simp [Station.lowLoadAfter, hstate])
      (by simp [Station.lowLoadAfter, hstate])
  case redirect cfg hc hstate =>
    exact State.sendsByState_of_configured (by simp [hstate]) (by simp [hstate])
  case enter cfg dest st hc he hdest hfit hheld hsaved =>
    obtain ⟨⟨hleft, -⟩, ⟨hentered, -⟩, honce⟩ := he
    refine State.sendsByState_of_configured (by simpa [hdest] using hentered) (fun ho => ?_)
    obtain rfl : dest = .off := hdest.symm.trans ho
    exact ShareLine.enter_off _ _ _ (StationState.sending_of hleft (honce rfl))
  case trip cfg cause hc hu ht =>
    exact State.sendsByState_of_configured (by simp [State.emptyStack]) (by simp [State.emptyStack])
  case clear cfg hcmd hc ht =>
    refine State.sendsByState_of_configured (by simp) (fun _ => ?_)
    exact ShareLine.enter_off _ _ _ (by simp [ht, StationState.sending])
  all_goals simpa [State.SendsByState] using hs

/-- Settles O53: the queue's bound and what waits in OFF are kept by every move, with the configuration beside them. -/
theorem everyStepKeepsTheLineSound : Obligations.EveryStepKeepsTheLineSound := by
  intro s t hcfg hline hsends hstep
  exact ((step_moves s t hstep).keeps
    (P := fun x => x.ConfigurationSound ∧ x.line.Sound ∧ x.SendsByState)
    (fun _ _ hm ⟨h1, h2, h3⟩ => ⟨hm.keepsConfiguration h1, hm.keepsLineSound h2, hm.keepsSendsByState h1 h3⟩)
    ⟨hcfg, hline, hsends⟩).2

end Sys2Proof.Machine
end

section
/-! SUPPORT. The Station Controller's operations in the words of the statements: each entry, ALERT, trip and reaction of the
model is the record update that the statements write out for it. -/

namespace Sys2Proof.Machine

/-! ### Answers, counts and ALERTs -/

theorem State.plainAnswer_eq (s : State) (code : ResponseCode) :
    s.answer (plainResponse code) = answered s code [] := rfl

/-! ### The parts of an entry -/

/-- The controller after an entry other than one into STOPPING or STANDBY (R4, R5, R20, R24). -/
theorem Station.enter_eq (st : Station) (dest : StationState) (now : Micros) (h1 : dest ≠ .stopping)
    (h2 : dest ≠ .standby) : st.enter dest now = { enteredStation dest now with stack := st.stack } := by
  simp [Station.enter, enteredStation, h1, h2]

/-- The allocator after an entry into a state other than OFF: the setpoint command, and H and c at departure from RUN
(R140, R147). -/
theorem Allocator.enter_eq (a : Allocator) (left dest : StationState) (h : dest ≠ .off) :
    a.enter left dest = { departedAllocator a left with setpoint := entrySetpoint a dest } := by
  simp [Allocator.enter, departedAllocator, h]

/-- H and c are kept at departure from a state other than RUN (R140). -/
theorem departedAllocator_eq (a : Allocator) (left : StationState) (h : left ≠ .run) : departedAllocator a left = a := by
  simp [departedAllocator, h]

/-- An entry between states other than OFF leaves the line alone (R7, R8). -/
theorem ShareLine.enter_eq (l : ShareLine) (left dest : StationState) (now : Micros) (hl : left ≠ .off)
    (hd : dest ≠ .off) : l.enter left dest now = l := by
  simp [ShareLine.enter, hl, hd]

theorem ShareLine.filter_not_leave (l : List QueuedFrame) :
    (l.filter fun q => !q.isLeave) = l.filter fun q => decide (q.body ≠ .leave) := by
  congr
  funext q
  cases hq : q.body <;> simp [QueuedFrame.isLeave, hq]

/-- Departure from OFF at the line (R8). -/
theorem ShareLine.enter_departed (l : ShareLine) (dest : StationState) (now : Micros) (hd : dest ≠ .off) :
    l.enter .off dest now = { l with
      alertQueue := l.alertQueue.filter fun q => decide (q.body ≠ .leave)
      nextSequence := 0
      firstFlag := true } := by
  simp [ShareLine.enter, hd, ShareLine.filter_not_leave]

/-! ### Entries -/

section
variable {s : State} {cfg : Configuration}

/-- An entry that is none into OFF, STOPPING or STANDBY (R4). -/
theorem State.enter_eq (dest : StationState) (h1 : dest ≠ .stopping) (h2 : dest ≠ .standby) (h3 : dest ≠ .off) :
    s.enter cfg dest = { s with
      station := { enteredStation dest s.time with stack := s.station.stack }
      allocator :=
        { departedAllocator s.allocator s.station.state with setpoint := entrySetpoint s.allocator dest }
      regulator := s.regulator.enter cfg s.station.stack dest
      gates := s.gates.enter (s.regulator.enter cfg s.station.stack dest).lastAngle dest
      line := s.line.enter s.station.state dest s.time } := by
  have hallocator := s.allocator.enter_eq s.station.state dest h3
  have hstation := s.station.enter_eq dest s.time h1 h2
  unfold State.enter
  dsimp only
  rw [hallocator, hstation]
  rfl

theorem Regulator.enter_off_eq (r : Regulator) (stack : List ContextRecord)
    (h : configurationInRange cfg = true) :
    r.enter cfg stack .off = { integrator := 0, lastAngle := cfg.alphaMax, clampSide := .high } := by
  have hb := configurationInRange_bounds cfg h
  have hside := clampSideOf_alphaMax cfg (by omega)
  simp [Regulator.enter, Regulator.turnTo, hside]

/-- Entry into OFF from a sending state, with the stack emptied (R4, R7, R153). -/
theorem State.enter_off_emptied (h : configurationInRange cfg = true) (hs : s.station.state.sending = true) :
    (s.enter cfg .off).emptyStack = offFrom s cfg := by
  have hregulator := Regulator.enter_off_eq s.regulator s.station.stack h
  unfold State.emptyStack State.enter
  dsimp only
  rw [hregulator]
  simp [ShareLine.enter, hs, ShareLine.join, offFrom, departedAllocator, Allocator.enter, entrySetpoint, blockedGates,
    Station.enter, enteredStation, State.setStation, State.setAllocator, State.setRegulator, State.setGates,
    State.setLine, Gates.enter, Gates.block]

/-- Entry into OFF from a sending state that holds no record. -/
theorem State.enter_off (h : configurationInRange cfg = true) (hs : s.station.state.sending = true)
    (hstack : s.station.stack = []) : s.enter cfg .off = offFrom s cfg := by
  rw [← State.enter_off_emptied h hs]
  simp [State.emptyStack, State.setStation, State.enter, State.setAllocator, State.setRegulator, State.setGates,
    State.setLine, Station.enter, hstack]

/-- Entry into a state that blocks the gates, out of a state other than OFF, with an empty stack (R4). -/
theorem State.enter_blocking (dest : StationState) (hd : dest = .syncing ∨ dest = .tripped)
    (hl : s.station.state ≠ .off) (hstack : s.station.stack = []) : s.enter cfg dest = blockedFrom s dest := by
  rcases hd with rfl | rfl <;>
    rw [State.enter_eq _ (by decide) (by decide) (by decide), s.line.enter_eq _ _ _ hl (by decide), hstack] <;> rfl

/-- Departure from OFF into a state that blocks the gates (R4, R8). -/
theorem State.enter_from_off (dest : StationState) (hd : dest = .syncing ∨ dest = .tripped)
    (ho : s.station.state = .off) (hstack : s.station.stack = []) :
    s.enter cfg dest = blockedFrom (departedOff s) dest := by
  rcases hd with rfl | rfl <;>
    rw [State.enter_eq _ (by decide) (by decide) (by decide), ho, ShareLine.enter_departed _ _ _ (by decide), hstack] <;>
    simp only [blockedFrom, departedOff, ho] <;> rfl

/-- Entry into BLOCKED (R4, R14, R15, R18). -/
theorem State.enter_blocked (hl : s.station.state ≠ .off) :
    s.enter cfg .blocked =
      { blockedFrom s .blocked with station := { enteredStation .blocked s.time with stack := s.station.stack } } := by
  rw [State.enter_eq _ (by decide) (by decide) (by decide), s.line.enter_eq _ _ _ hl (by decide)]
  rfl

/-- Entry into RIDE: no command to the neighbours (R4, R14, R18). -/
theorem State.enter_ride (hl : s.station.state ≠ .off) :
    s.enter cfg .ride = { s with
      station := { enteredStation .ride s.time with stack := s.station.stack }
      allocator := departedAllocator s.allocator s.station.state } := by
  rw [State.enter_eq _ (by decide) (by decide) (by decide), s.line.enter_eq _ _ _ hl (by decide)]
  rfl

/-- Entry into RUN: no command to the neighbours (R4, R11, R17). -/
theorem State.enter_run (hl : s.station.state ≠ .off) (hr : s.station.state ≠ .run) :
    s.enter cfg .run = { s with station := { enteredStation .run s.time with stack := s.station.stack } } := by
  rw [State.enter_eq _ (by decide) (by decide) (by decide), s.line.enter_eq _ _ _ hl (by decide),
    departedAllocator_eq _ _ hr]
  rfl

/-- Entry into STARTING (R4, R10, R153, R159). -/
theorem State.enter_starting (h : configurationInRange cfg = true) (hl : s.station.state ≠ .off)
    (hr : s.station.state ≠ .run) (hstack : s.station.stack = []) : s.enter cfg .starting = startedFrom s cfg := by
  have hregulator : s.regulator.enter cfg [] .starting = ⟨0, cfg.alphaMax, .high⟩ :=
    Regulator.enter_off_eq s.regulator [] h
  rw [State.enter_eq _ (by decide) (by decide) (by decide), s.line.enter_eq _ _ _ hl (by decide),
    departedAllocator_eq _ _ hr, hstack, hregulator]
  rfl

/-- Entry into RESTART with the top record of the stack (R4, R16, R153, R159). -/
theorem State.enter_restart (top : ContextRecord) (hl : s.station.state ≠ .off) (hr : s.station.state ≠ .run)
    (htop : s.station.stack.getLast? = some top) : s.enter cfg .restart = restartedFrom s cfg top := by
  rw [State.enter_eq _ (by decide) (by decide) (by decide), s.line.enter_eq _ _ _ hl (by decide),
    departedAllocator_eq _ _ hr]
  have hregulator : s.regulator.enter cfg s.station.stack .restart =
      Regulator.turnTo { s.regulator with integrator := top.integrator } cfg (restAngle cfg top.integrator) := by
    simp [Regulator.enter, htop]
  rw [hregulator]
  rfl

/-- Entry into STANDBY with its origin, out of a state other than OFF (R4, R5). -/
theorem State.enterStandby_eq (origin : StandbyOrigin) (hl : s.station.state ≠ .off) :
    s.enterStandby cfg origin = standbyFrom s origin := by
  have hline := s.line.enter_eq s.station.state .standby s.time hl (by decide)
  have hallocator := s.allocator.enter_eq s.station.state .standby (by decide)
  unfold State.enterStandby State.emptyStack State.enter
  dsimp only
  rw [hallocator, hline]
  rfl

/-- Entry into STOPPING with its destination and origin, out of a state other than OFF (R4, R21, R22, R24). -/
theorem State.enterStopping_eq (destination : Destination) (origin : Option StoppingOrigin)
    (hl : s.station.state ≠ .off) :
    s.enterStopping cfg destination origin = stoppingFrom s destination origin := by
  have hline := s.line.enter_eq s.station.state .stopping s.time hl (by decide)
  have hallocator := s.allocator.enter_eq s.station.state .stopping (by decide)
  unfold State.enterStopping State.emptyStack State.enter
  dsimp only
  rw [hallocator, hline]
  rfl

/-- A STOPPING station enters its destination (R5, R23). -/
theorem State.enterDestination_eq (h : configurationInRange cfg = true) (hs : s.station.state = .stopping)
    (hfits : s.station.StackFits) : s.enterDestination cfg = arrivedFrom s cfg := by
  have hstack := hfits.stack_eq_nil (by rw [hs]; rfl)
  unfold State.enterDestination arrivedFrom
  cases hdest : s.station.destination with
  | none => rfl
  | some destination =>
    cases destination with
    | off => exact State.enter_off h (by rw [hs]; rfl) hstack
    | standby =>
      dsimp only
      rw [State.enterStandby_eq _ (by simp [hs])]
      cases horigin : s.station.stoppingOrigin with
      | none => rfl
      | some origin => cases origin <;> rfl

/-! ### ALERTs of an entry (R6, R137) -/

/-- The ALERT of the station as it stands. -/
theorem State.queueAlert_eq (kind : AlertKind) :
    s.queueAlert kind = alerted s (alertOf s kind s.station.state.code (ownShortfall s.station.state
      s.station.standbyOrigin s.allocator.demand (min s.allocator.setpoint s.sampler.figures.capability)
      s.sampler.figures.capability)) := rfl

theorem State.standbyAlert_eq (origin : StandbyOrigin) (hl : s.station.state ≠ .off) :
    (s.enterStandby cfg origin).queueAlert .standby =
      alerted (standbyFrom s origin) (alertOf s .standby 8 (if origin = .protection then s.allocator.demand else 0)) := by
  rw [State.enterStandby_eq origin hl, State.queueAlert_eq]
  cases origin <;> rfl

theorem State.enterBlocked_eq (hl : s.station.state ≠ .off) : s.enterBlocked cfg = blockedWith s s.station.stack := by
  have hshortfall : ownShortfall .blocked none s.allocator.demand (min 0 s.sampler.figures.capability)
      s.sampler.figures.capability = s.allocator.demand := by simp [ownShortfall]
  unfold State.enterBlocked
  rw [State.queueAlert_eq, State.enter_blocked hl]
  exact congrArg (fun x => alerted _ (alertOf s .block 5 x)) hshortfall

/-- The first kind of a set in the order of R13, in the statements' words. -/
theorem firstKind_eq (a : ActiveSet) : a.firstKind = firstKindOf a := by
  obtain ⟨sag, phase, frequency, sync⟩ := a
  cases sag <;> cases phase <;> cases frequency <;> rfl

/-- The record that a push places on the stack (R13). -/
theorem State.pushContext_eq (setpoint : Nat) :
    s.pushContext setpoint = { s with station := { s.station with stack := s.station.stack ++
      [⟨firstKindOf s.classifier.active, s.regulator.integrator, setpoint⟩] } } := by
  rw [← firstKind_eq]
  rfl

theorem State.rideOut_eq (setpoint : Nat) (hl : s.station.state ≠ .off) :
    s.rideOut cfg setpoint =
      rideFrom s ⟨firstKindOf s.classifier.active, s.regulator.integrator, setpoint⟩ := by
  unfold State.rideOut
  rw [State.pushContext_eq, State.queueAlert_eq, State.enter_ride (by exact hl)]
  rfl

theorem State.pushAndBlock_eq (setpoint : Nat) (hl : s.station.state ≠ .off) :
    (s.pushContext setpoint).enterBlocked cfg = blockedWith s
      (s.station.stack ++ [⟨firstKindOf s.classifier.active, s.regulator.integrator, setpoint⟩]) := by
  rw [State.enterBlocked_eq (by exact hl), State.pushContext_eq]
  rfl

theorem State.escalate_eq (hl : s.station.state ≠ .off) :
    s.escalate cfg =
      counted (alerted (standbyFrom s .escalation) (alertOf s .standby 8 0)) [.escalation] := by
  unfold State.escalate
  rw [State.standbyAlert_eq _ hl]
  rfl

/-! ### Trips (R26, R180, R181) -/

/-- A change of the Fault Record does not touch the ALERT queued beside it. -/
theorem alerted_fault (x : State) (f : FaultRecord) (body : AlertBody) :
    alerted { x with fault := f } body = { alerted x body with fault := f } := by
  unfold alerted
  split <;> rfl

theorem State.tripPicture_eq (cause : TripCause) : s.tripPicture cause = pictureOf s cause := by
  simp [State.tripPicture, pictureOf, countStatus, List.countP_eq_length_filter]

theorem State.trip_of_tripped (cause : TripCause) (hs : s.station.state = .tripped) :
    s.trip cfg cause = trippedAgain s := by
  simp [State.trip, hs]
  rfl

/-- The station from which a trip enters TRIPPED: out of OFF, after the departure's effects on the line (R8). -/
def departing (s : State) : State := if s.station.state = .off then departedOff s else s

theorem departing_of_off (hs : s.station.state = .off) : departing s = departedOff s := by simp [departing, hs]

theorem departing_of_ne_off (hs : s.station.state ≠ .off) : departing s = s := by simp [departing, hs]

theorem State.enter_tripped (s : State) (cfg : Configuration) :
    (s.enter cfg .tripped).emptyStack = blockedFrom (departing s) .tripped := by
  have hemptied : (s.enter cfg .tripped).emptyStack = s.emptyStack.enter cfg .tripped := rfl
  rw [hemptied]
  by_cases ho : s.station.state = .off
  · rw [State.enter_from_off .tripped (.inr rfl) (by exact ho) rfl, departing_of_off ho]
    rfl
  · rw [State.enter_blocking .tripped (.inr rfl) (by exact ho) rfl, departing_of_ne_off ho]
    rfl

theorem departing_setFault (s : State) (f : FaultRecord) :
    departing (s.setFault f) = { departing s with fault := f } := by
  unfold departing
  split <;> rename_i h <;> simp only [State.setFault_station] at h <;> simp only [h, if_true, if_false] <;> rfl

/-- A trip taken with no valid record captures the picture and enters TRIPPED (R26, R180). -/
theorem State.trip_eq (cause : TripCause) (hu : s.station.state ≠ .unconfigured) (ht : s.station.state ≠ .tripped)
    (hnone : s.fault.picture = none) : s.trip cfg cause = trippedFrom (departing s) cause := by
  have htake : s.fault.take (s.tripPicture cause) = ⟨some (pictureOf s cause), 0⟩ := by
    rw [FaultRecord.take_of_none _ _ hnone, State.tripPicture_eq]
  have hpicture : pictureOf (departing s) cause = pictureOf s cause := by
    unfold departing
    split <;> rfl
  have hentered : s.trip cfg cause =
      (((blockedFrom (departing (s.setFault ⟨some (pictureOf s cause), 0⟩)) .tripped).queueAlert .trip).count .trip) := by
    rw [← State.enter_tripped _ cfg, ← htake]
    unfold State.trip
    split <;> simp_all
  rw [hentered, departing_setFault, ← hpicture, State.queueAlert_eq]
  exact congrArg (fun x : State => x.count .trip) (alerted_fault (blockedFrom (departing s) .tripped)
    ⟨some (pictureOf (departing s) cause), 0⟩ (alertOf (departing s) .trip 9 (departing s).allocator.demand))

/-! ### Reactions to the classifier (R10, R12, R14 to R16, R18, R19, R23) -/

theorem State.testStart_eq (h : configurationInRange cfg = true) (hs : s.station.state = .syncing)
    (hfits : s.station.StackFits) :
    s.testStart cfg =
      if s.tracker.state = .locked ∧ s.classifier.state = .normal then startedFrom s cfg else s := by
  unfold State.testStart State.startCondition
  rw [State.enter_starting h (by simp [hs]) (by simp [hs]) (hfits.stack_eq_nil (by rw [hs]; rfl))]
  simp

/-- The station's reaction to a transition that the classifier has made. -/
theorem State.reactTo_eq (x : Transition) (setpoint : Nat) (h : configurationInRange cfg = true)
    (hfits : s.station.StackFits) (hx : s.classifier.state = x.entered) :
    s.reactTo cfg x setpoint = reacted s cfg x.entered setpoint := by
  obtain ⟨entered, onset⟩ := x
  obtain rfl : s.classifier.state = entered := hx
  have restarts (hr : s.station.state = .ride ∨ s.station.state = .blocked) :
      s.enter cfg .restart = s.station.stack.getLast?.elim s fun top => restartedFrom s cfg top := by
    have hne : s.station.stack ≠ [] := by
      rintro hnil
      rcases hr with hr | hr <;> simp [Station.StackFits, hr, hnil, StationState.holdsRecords] at hfits
    rw [List.getLast?_eq_getLast_of_ne_nil hne]
    exact State.enter_restart _ (by rcases hr with hr | hr <;> simp [hr]) (by rcases hr with hr | hr <;> simp [hr])
      (List.getLast?_eq_getLast_of_ne_nil hne)
  have room (hr : s.station.state = .restart) : s.station.stack.length < 2 ↔ s.station.stack.length = 1 := by
    obtain ⟨hlength, hrecords⟩ := hfits
    rw [hr] at hrecords
    have := hrecords.mpr rfl
    omega
  unfold State.reactTo reacted
  cases hs : s.station.state
  case syncing =>
    rw [State.testStart_eq h hs hfits]
    cases s.classifier.state <;> simp
  case starting =>
    have hsync := State.enter_blocking (s := s) (cfg := cfg) .syncing (.inl rfl) (by simp [hs])
      (hfits.stack_eq_nil (by rw [hs]; rfl))
    cases s.classifier.state <;> simp [hsync]
  case run =>
    have hne : s.station.state ≠ .off := by simp [hs]
    cases s.classifier.state <;> simp [State.rideOut_eq _ hne, State.pushAndBlock_eq _ hne]
  case ride =>
    cases s.classifier.state <;> simp [State.enterBlocked_eq (s := s) (cfg := cfg) (by simp [hs]), restarts (.inl hs)]
  case blocked => cases s.classifier.state <;> simp [restarts (.inr hs)]
  case restart =>
    have hne : s.station.state ≠ .off := by simp [hs]
    cases s.classifier.state <;>
      simp [room hs, State.rideOut_eq _ hne, State.pushAndBlock_eq _ hne, State.escalate_eq hne]
  case stopping => cases s.classifier.state <;> simp [State.enterDestination_eq h hs hfits]
  all_goals cases s.classifier.state <;> rfl

end

end Sys2Proof.Machine
end

section
/-! SUPPORT. The requests, resets and timers of the Station Controller, by station state (R9, R20 to R28). -/

namespace Sys2Proof.Machine

/-! ### Commands that take a request -/

section
variable {s : State} {cfg : Configuration}

theorem exec_start_of (hc : s.port.config = some cfg) (hr : s.port.request = some .start) :
    exec .start s = .next (s.takeStart cfg) := by
  simp [exec, execStart, State.requested, State.takeConfigured, hc, hr]

theorem exec_stop_of (hc : s.port.config = some cfg) (hr : s.port.request = some .stop) :
    exec .stop s = .next (s.takeStop cfg) := by
  simp [exec, execStop, State.requested, State.takeConfigured, hc, hr]

theorem exec_standby_of (hc : s.port.config = some cfg) (hr : s.port.request = some .standby) :
    exec .standby s = .next (s.takeStandby cfg) := by
  simp [exec, execStandby, State.requested, State.takeConfigured, hc, hr]

theorem exec_clearFault_of (hc : s.port.config = some cfg) (hr : s.port.request = some .clearFault) :
    exec .clearFault s = .next (s.takeClearFault cfg) := by
  simp [exec, execClearFault, State.requested, State.takeConfigured, hc, hr]

end

/-- Settles O14: START by state, from OFF with the departure of R8. -/
theorem startMovesToSyncing : Obligations.StartMovesToSyncing := by
  refine ⟨fun s hr hn => ?_, fun s cfg ⟨hc, hrange, hr⟩ hfits => ?_⟩
  · simp [exec, execStart, State.requested, State.takeConfigured, hn, hr, State.plainAnswer_eq]
  rw [exec_start_of hc hr]
  refine ⟨fun hs => ?_, fun hs => ?_, fun h1 h2 h3 => ?_⟩
  · have henter := State.enter_from_off (cfg := cfg) .syncing (.inl rfl) hs (hfits.stack_eq_nil (by rw [hs]; rfl))
    simp only [State.takeStart, hs, henter]
    rfl
  · have henter := State.enter_blocking (cfg := cfg) .syncing (.inl rfl) (by simp [hs])
      (hfits.stack_eq_nil (by rw [hs]; rfl))
    simp only [State.takeStart, hs, henter]
    rfl
  · unfold State.takeStart
    split
    case h_1 hs => exact absurd hs h1
    case h_2 hs => exact absurd hs h2
    case h_3 hs => exact absurd hs h3
    all_goals rfl

/-- Settles O15: STOP by the table of R21. -/
theorem stopByState : Obligations.StopByState := by
  refine ⟨fun s hr hn => ?_, fun s cfg ⟨hc, hrange, hr⟩ hfits => ?_⟩
  · simp [exec, execStop, State.requested, State.takeConfigured, hn, hr, State.plainAnswer_eq]
  rw [exec_stop_of hc hr]
  refine ⟨fun h => ?_, fun h => ?_, fun hs => ?_, fun h => ?_⟩
  · rcases h with hs | hs | hs
    · have henter := State.enter_off hrange (by rw [hs]; rfl) (hfits.stack_eq_nil (by rw [hs]; rfl))
      simp only [State.takeStop, hs, henter, State.plainAnswer_eq]
    all_goals
      have henter := State.enter_off_emptied hrange (s := s) (by rw [hs]; rfl)
      simp only [State.takeStop, hs, henter, State.plainAnswer_eq]
  · have henter (hs : s.station.state ≠ .off) := State.enterStopping_eq (cfg := cfg) .off none hs
    rcases h with hs | hs | hs | hs <;>
      simp only [State.takeStop, hs, henter (by simp [hs]), State.plainAnswer_eq]
  · simp only [State.takeStop, hs]
    rfl
  · rcases h with hs | hs <;> simp only [State.takeStop, hs, State.plainAnswer_eq]

/-- Settles O16: STANDBY by the table of R22. -/
theorem standbyByState : Obligations.StandbyByState := by
  refine ⟨fun s hr hn => ?_, fun s cfg ⟨hc, hrange, hr⟩ hfits => ?_⟩
  · simp [exec, execStandby, State.requested, State.takeConfigured, hn, hr, State.plainAnswer_eq]
  rw [exec_standby_of hc hr]
  refine ⟨fun h => ?_, fun h => ?_, fun h => ?_⟩
  · have henter (hs : s.station.state ≠ .off) := State.enterStopping_eq (cfg := cfg) .standby (some .request) hs
    rcases h with hs | hs | hs | hs <;>
      simp only [State.takeStandby, hs, henter (by simp [hs]), State.plainAnswer_eq]
  · have henter (hs : s.station.state ≠ .off) := State.enterStandby_eq (cfg := cfg) .request hs
    rcases h with hs | hs <;> simp only [State.takeStandby, hs, henter (by simp [hs]), State.plainAnswer_eq]
  · rcases h with hs | hs | hs | hs <;> simp only [State.takeStandby, hs, State.plainAnswer_eq]

/-! ### CLEAR FAULT (R27) -/

/-- An input refuses the clear exactly at its active level (R27). -/
theorem ProtectionInput.stillActive_iff (p : ProtectionInput) :
    p.stillActive = true ↔ (p.edge = .rising ∧ p.level = true) ∨ (p.edge = .falling ∧ p.level = false) := by
  unfold ProtectionInput.stillActive
  split <;> simp_all

/-- The clear is refused exactly by a recorded input at its active level (R27). -/
theorem State.clearBlocked_iff (s : State) (p : TripPicture) (hp : s.fault.picture = some p) :
    s.clearBlocked = true ↔ ∃ n : Fin 4, p.cause = .protection n ∧ s.protection[n].stillActive = true := by
  unfold State.clearBlocked
  rw [hp]
  dsimp only
  split <;> simp_all

/-- Settles O17: CLEAR FAULT looks at the recorded input's level, and clears into OFF. -/
theorem clearFaultExaminesTheCause : Obligations.ClearFaultExaminesTheCause := by
  refine ⟨fun s hr hn => ?_, fun s cfg ⟨hc, hrange, hr⟩ hfits => ?_⟩
  · simp [exec, execClearFault, State.requested, State.takeConfigured, hn, hr, State.plainAnswer_eq]
  rw [exec_clearFault_of hc hr]
  refine ⟨fun p n hs hp hcause hactive => ?_, fun p hs hp hpassive => ?_, fun h1 h2 => ?_⟩
  · have hblocked := (s.clearBlocked_iff p hp).mpr
      ⟨n, hcause, (ProtectionInput.stillActive_iff _).mpr hactive⟩
    simp only [State.takeClearFault, hs, hblocked, if_true, State.plainAnswer_eq]
  · have hblocked : s.clearBlocked = false := by
      rw [Bool.eq_false_iff]
      intro hblocked
      obtain ⟨n, hcause, hactive⟩ := (s.clearBlocked_iff p hp).mp hblocked
      obtain ⟨hrising, hfalling⟩ := hpassive n hcause
      exact ((ProtectionInput.stillActive_iff _).mp hactive).elim hrising hfalling
    have henter := State.enter_off (s := s.setFault FaultRecord.reset) hrange (by simp [hs, StationState.sending])
      (by simpa using hfits.stack_eq_nil (by rw [hs]; rfl))
    simp only [State.takeClearFault, hs, hblocked, henter, Bool.false_eq_true, if_false]
    rfl
  · unfold State.takeClearFault
    split
    case h_1 hs => exact absurd hs h1
    case h_2 hs => exact absurd hs h2
    all_goals rfl

/-! ### The controller's timers (R20, R24) -/

/-- Settles O33: both expiries, each due at its time. -/
theorem controllerTimersTakeTheStationDown : Obligations.ControllerTimersTakeTheStationDown := by
  intro s cfg hc
  refine ⟨fun started hs hstarted hdue => ?_, fun hs hrunning hdue => ?_⟩
  · have hexpired : s.blockedTimerDue cfg = true := by
      simpa [State.blockedTimerDue, hs, hstarted, expired, hasRun] using hdue
    have hstandby := State.standbyAlert_eq (s := s) (cfg := cfg) .blockTimeout (by simp [hs])
    simp only [exec, execBlockedTimerExpiry, State.configured, hc, hexpired, if_true, State.blockTimeout, hstandby]
    rfl
  · have hexpired : s.lowLoadDue cfg = true := by simp [State.lowLoadDue, hs, hrunning, hdue]
    have hstopping := State.enterStopping_eq (s := s.count .lowLoad) (cfg := cfg) .standby (some .lowLoad)
      (by simp [hs])
    simp only [exec, execLowLoadTimerExpiry, State.configured, hc, hexpired, if_true, State.lowLoadExpire, hstopping]
    rfl

/-! ### SRST (R28, R91, R94, R133, R179, R195) -/

/-- With every counter at 0 no kind is pending, and both lines are released (R175, R179). -/
theorem EventUnit.zero_values (e : EventUnit) :
    (∀ i : Fin 24, e.zero.counters[i] = 0 ∧ e.zero.overflow[i] = false) ∧ e.zero.urgent = e.urgent ∧
      e.zero.attnU = false ∧ e.zero.attnR = false := by
  have hlines (u : Bool) : EventUnit.classPending
      { e with counters := Vector.replicate 24 0, overflow := Vector.replicate 24 false } u = false := by
    simp [EventUnit.classPending, EventUnit.isPending]
  exact ⟨by simp [EventUnit.zero], rfl, hlines true, hlines false⟩

/-- What SRST has zeroed and discarded before the station moves (R94, R179, R195). -/
def State.zeroedBySrst (s : State) : State :=
  ((s.setPort s.port.supervisorReset).setEvents s.events.zero).setFilter s.filter.zero

theorem State.supervisorReset_of_stays (s : State)
    (h : s.port.config = none ∨ s.station.state = .unconfigured ∨ s.station.state = .tripped) :
    s.supervisorReset = s.zeroedBySrst.setLine s.line.resetMark := by
  have hport : s.zeroedBySrst.port.config = s.port.config := rfl
  have hmoved : (s.zeroedBySrst.configured fun cfg => s.zeroedBySrst.resetStation cfg) = s.zeroedBySrst := by
    unfold State.configured
    split
    · rfl
    · rename_i cfg hc
      have hs : s.station.state = .unconfigured ∨ s.station.state = .tripped :=
        h.resolve_left (by simp [← hport, hc])
      have hstate : s.zeroedBySrst.station.state = s.station.state := rfl
      rcases hs with hs | hs <;> simp [State.resetStation, hstate, hs]
  exact congrArg (fun x : State => x.setLine x.line.resetMark) hmoved

theorem State.supervisorReset_of_configured (s : State) (cfg : Configuration) (hc : s.port.config = some cfg) :
    s.supervisorReset =
      (s.zeroedBySrst.resetStation cfg).setLine (s.zeroedBySrst.resetStation cfg).line.resetMark := by
  have hmoved : (s.zeroedBySrst.configured fun cfg => s.zeroedBySrst.resetStation cfg) =
      s.zeroedBySrst.resetStation cfg := by
    have hport : s.zeroedBySrst.port.config = some cfg := hc
    simp [State.configured, hport]
  exact congrArg (fun x : State => x.setLine x.line.resetMark) hmoved

/-- Settles O5: SRST by station state. -/
theorem srstByState : Obligations.SrstByState := by
  intro s hfits hranges hconfig
  have hport : s.supervisorReset.port = s.port.supervisorReset ∧ s.supervisorReset.filter = s.filter.zero ∧
      s.supervisorReset.events = s.events.zero := by
    unfold State.supervisorReset State.configured
    dsimp only
    split <;> simp
  obtain ⟨hport, hfilter, hevents⟩ := hport
  obtain ⟨hzero, hurgent, hlineU, hlineR⟩ := s.events.zero_values
  refine ⟨s.supervisorReset, rfl, hport, hfilter, ?_, ?_, ?_, ?_, fun hs => ?_, fun hs => ?_, fun hu ht ho cfg hc => ?_⟩
  · rw [hevents]
    exact hzero
  · rw [hevents]
    exact hurgent
  · rw [hevents]
    exact hlineU
  · rw [hevents]
    exact hlineR
  · rw [hport, hfilter, hevents, s.supervisorReset_of_stays (.inr hs)]
    rfl
  · obtain ⟨cfg, hc⟩ : ∃ cfg, s.port.config = some cfg :=
      Option.ne_none_iff_exists'.mp (fun hn => by simp [hs] at hconfig; exact hconfig hn)
    have hstate : s.zeroedBySrst.station.state = .off := hs
    rw [hport, hfilter, hevents, s.supervisorReset_of_configured cfg hc]
    simp only [State.resetStation, hstate]
    rfl
  · have hsending : s.station.state.sending = true := StationState.sending_of hu ho
    have henter := State.enter_off_emptied (s := s.zeroedBySrst.setAllocator s.allocator.dropDemand)
      (hranges cfg hc) hsending
    have hreset : s.zeroedBySrst.resetStation cfg =
        offFrom (s.zeroedBySrst.setAllocator s.allocator.dropDemand) cfg := by
      rw [← henter]
      unfold State.resetStation
      split
      case h_1 hs => exact absurd hs hu
      case h_2 hs => exact absurd hs ht
      case h_3 hs => exact absurd hs ho
      all_goals rfl
    rw [hport, hfilter, hevents, s.supervisorReset_of_configured cfg hc, hreset]
    rfl

end Sys2Proof.Machine
end

section
/-! SUPPORT. The classifier's timers at the station, the protection inputs and the values of the resets. -/

namespace Sys2Proof.Machine

section
variable {s : State} {cfg : Configuration}

/-! ### The classifier's operations in the words of the statements (R65 to R75) -/

theorem State.report_eq (x : Classifier) (onset : Bool) (setpoint : Nat) (h : configurationInRange cfg = true)
    (hfits : s.station.StackFits) :
    s.report cfg x onset setpoint = reacted { s with classifier := x } cfg x.state setpoint :=
  State.reactTo_eq (s := s.setClassifier x) ⟨x.state, onset⟩ setpoint h hfits rfl

/-- A move to OUTSIDE, with the active set as it is (R70 to R72). -/
theorem State.goOutside_eq (setpoint : Nat) (h : configurationInRange cfg = true) (hfits : s.station.StackFits) :
    s.goOutside cfg setpoint = wentOutside s cfg s.classifier.active setpoint := by
  unfold State.goOutside
  rw [State.report_eq _ _ _ h (by simpa using hfits)]
  simp only [State.count_frame]
  rfl

end

/-- Settles O31: the expiry reports NORMAL, and the station reacts by its state. -/
theorem recoveryEndsTheDisturbance : Obligations.RecoveryEndsTheDisturbance := by
  intro s cfg started hc h hfits hrecovering hstarted hexpired
  have hdue : s.confirmDue cfg = true := by
    simpa [State.confirmDue, hrecovering, hstarted, expired, hasRun] using hexpired
  have hexec : exec .recoveryConfirmTimerExpiry s = .next
      (reacted { s with classifier := clearedClassifier s.classifier } cfg .normal s.allocator.setpoint) := by
    have hreport := State.report_eq (s := s) (cfg := cfg) (clearedClassifier s.classifier) false
      s.allocator.setpoint h hfits
    simp only [exec, execRecoveryConfirmTimerExpiry, State.configured, hc, hdue, if_true]
    exact congrArg _ hreport
  rw [hexec]
  refine ⟨fun hs top htop => ⟨restAngleOf cfg top.integrator, ?_, ?_⟩, fun hs hlocked => ?_, fun h1 h2 h3 => ?_⟩
  · have hb := configurationInRange_bounds cfg h
    have := clampInt_bounds (cfg.alphaBias - top.integrator.tdiv 256) cfg.alphaMin cfg.alphaMax (by omega)
    unfold clampInt at this
    unfold restAngleOf
    omega
  · rcases hs with hs | hs <;> simp only [reacted, hs, htop, Option.elim_some] <;> rfl
  · simp only [reacted, hs, hlocked, if_true]
    rfl
  · unfold reacted
    cases hs : s.station.state
    case ride => exact absurd hs h1
    case blocked => exact absurd hs h2
    case syncing => simp [h3.resolve_left (fun hne => hne hs)]
    all_goals rfl

/-- Settles O32: the expiry is a move to OUTSIDE, in every station state. -/
theorem frequencyTimerTakesTheGridOutside : Obligations.FrequencyTimerTakesTheGridOutside := by
  intro s cfg started hc h hfits hdisturbed hstarted hexpired _
  have hdue : s.frequencyTimerDue cfg = true := by
    simpa [State.frequencyTimerDue, hdisturbed, hstarted, expired, hasRun] using hexpired
  simp only [exec, execFrequencyTimerExpiry, State.configured, hc, hdue, if_true]
  rw [State.goOutside_eq _ h hfits]

/-! ### Protection inputs (R170, R171) -/

theorem edgeMatches_iff (edge : ProtectionEdge) (before after : Bool) :
    edgeMatches edge before after = true ↔ edgeFound edge before after := by
  cases edge <;> cases before <;> cases after <;> simp [edgeMatches, edgeFound]

/-- A sample that is due and brings no action. -/
theorem exec_protectionEdge_quiet (s : State) (n : Fin 4) (level : Bool) (hdue : s.protection[n].sampled = false)
    (h : s.port.config = none ∨ ¬ edgeFound s.protection[n].edge s.protection[n].level level) :
    exec (.protectionEdge n level) s = .next (sampledInput s n level) := by
  rcases s.takeSample_cases n level with heq | ⟨cfg, hc, hedge, -⟩
  · simp only [exec, execProtectionEdge, hdue, Bool.false_eq_true, if_false, heq]
    rfl
  · rcases h with hn | hquiet
    · simp [hn] at hc
    · exact absurd ((edgeMatches_iff _ _ _).mp hedge) hquiet

/-- A sample that is due and brings the input's action. -/
theorem exec_protectionEdge_acts (s : State) (cfg : Configuration) (n : Fin 4) (level : Bool)
    (hdue : s.protection[n].sampled = false) (hc : s.port.config = some cfg)
    (hedge : edgeFound s.protection[n].edge s.protection[n].level level) :
    exec (.protectionEdge n level) s =
      .next ((sampledInput s n level).protectionAction cfg n s.protection[n].action) := by
  have hport : (s.sampleInput n level).port.config = some cfg := by simpa using hc
  simp only [exec, execProtectionEdge, hdue, Bool.false_eq_true, if_false, State.takeSample, State.configured, hport,
    (edgeMatches_iff _ _ _).mpr hedge, if_true]
  rfl

/-- Settles O36: PROTECTION_EDGE by sample, edge, action and station state. -/
theorem protectionEdgeActsByItsAction : Obligations.ProtectionEdgeActsByItsAction := by
  intro s u n level hu
  subst hu
  refine ⟨execProtectionEdge_of_sampled s n level, exec_protectionEdge_quiet s n level, fun cfg hdue hc hedge => ?_⟩
  rw [exec_protectionEdge_acts s cfg n level hdue hc hedge]
  have hstation : (sampledInput s n level).station = s.station := rfl
  refine ⟨fun ha => ?_, fun ha => ⟨fun hs => ?_, fun hs => ?_⟩, fun ha => ⟨fun hs => ?_, fun ht ho hu hnone => ?_,
    fun ho hnone => ?_⟩⟩ <;> rw [ha]
  · rfl
  · unfold State.protectionAction State.protectionStandby
    rcases hs with hs | hs | hs <;> simp only [hstation, hs]
  · have hacts : (sampledInput s n level).protectionAction cfg n .standby =
        ((sampledInput s n level).enterStandby cfg .protection).queueAlert .standby := by
      unfold State.protectionAction State.protectionStandby
      rcases hs with hs | hs | hs | hs | hs | hs | hs <;> simp only [hstation, hs]
    have hne : (sampledInput s n level).station.state ≠ .off := by
      rcases hs with hs | hs | hs | hs | hs | hs | hs <;> simp [hstation, hs]
    rw [hacts, State.standbyAlert_eq _ hne]
    rfl
  · exact congrArg _ (State.trip_of_tripped _ hs)
  · have htrip := State.trip_eq (s := sampledInput s n level) (cfg := cfg) (.protection n) hu ht hnone
    rw [departing_of_ne_off (by exact ho)] at htrip
    exact congrArg _ htrip
  · have htrip := State.trip_eq (s := sampledInput s n level) (cfg := cfg) (.protection n) (by simp [hstation, ho])
      (by simp [hstation, ho]) hnone
    rw [departing_of_off (by exact ho)] at htrip
    exact congrArg _ htrip

/-! ### The resets -/

/-- Settles O4: POWER_ON_RESET leaves the power-on values. -/
theorem powerOnResetValues : Obligations.PowerOnResetValues := by
  intro s
  have hgates : ∀ g : Fin 6, State.reset.gates.outputs[g] = none := by decide
  have hinputs : ∀ n : Fin 4, State.reset.protection[n] = ⟨.off, .report, false, false⟩ := by decide
  have hevents : ∀ i : Fin 24, State.reset.events.counters[i] = 0 ∧ State.reset.events.overflow[i] = false ∧
      State.reset.events.urgent[i] = false := by decide
  exact ⟨_, rfl, rfl, rfl, rfl, rfl, rfl, rfl, rfl, rfl, rfl, rfl, rfl, rfl, rfl, rfl, rfl, rfl, rfl, rfl, rfl, rfl,
    rfl, rfl, rfl, rfl, rfl, rfl, rfl, rfl, rfl, rfl, rfl, rfl, rfl, rfl, rfl, rfl, rfl, rfl, rfl, rfl, rfl, rfl,
    rfl, rfl, rfl, rfl, rfl, rfl, rfl, rfl, rfl, hgates, hinputs, hevents, rfl, rfl, rfl, rfl, rfl, rfl, rfl, rfl⟩

/-- Settles O60: the state after reset has every invariant. -/
theorem resetIsSound : Obligations.ResetIsSound := by
  unfold Obligations.ResetIsSound
  and_intros <;> decide

end Sys2Proof.Machine
end

section
/-! SUPPORT. LOAD CONFIG: the fields and the checks of R190 and R191 in the words of the statements. -/

namespace Sys2Proof.Machine

/-! ### The envelope -/

/-- The figures of a point relate it to every later one as they do to the next (R191). -/
theorem envelope_pairwise_range (pt : Nat → EnvelopePoint) (n : Nat) :
    ((List.range n).map pt).Pairwise (fun a b => a.time < b.time ∧ a.figure ≤ b.figure) ↔
      ∀ i < n - 1, (pt i).time < (pt (i + 1)).time ∧ (pt i).figure ≤ (pt (i + 1)).figure := by
  have htrans : IsTrans EnvelopePoint (fun a b => a.time < b.time ∧ a.figure ≤ b.figure) :=
    ⟨fun _ _ _ h1 h2 => ⟨h1.1.trans h2.1, h1.2.trans h2.2⟩⟩
  rw [← List.isChain_iff_pairwise, List.isChain_map, List.isChain_range]

/-- Point `i` of a run of bytes, four bytes each (R191). -/
theorem envelopePoints_getElem? (bytes : List Byte) (i : Nat) (h : 4 * i + 3 < bytes.length) :
    (envelopePoints bytes)[i]? =
      some ⟨unsignedBE ((bytes.drop (4 * i)).take 2), unsignedBE ((bytes.drop (4 * i + 2)).take 2)⟩ := by
  induction bytes using envelopePoints.induct generalizing i with
  | case1 t1 t0 v1 v0 rest ih =>
    cases i with
    | zero => rfl
    | succ i =>
      simp only [List.length_cons] at h
      rw [envelopePoints, List.getElem?_cons_succ, ih i (by omega)]
      rfl
  | case2 bytes hshort =>
    match bytes, hshort, h with
    | t1 :: t0 :: v1 :: v0 :: rest, hshort, _ => exact absurd rfl (hshort t1 t0 v1 v0 rest)

/-- The points that LOAD CONFIG gives, each at its bytes (R191). -/
theorem envelopeOf_eq (p : List Byte) (hl : p.length = 115) (hn : envelopeCount p ≤ 8) :
    envelopeOf p = (List.range (envelopeCount p)).map (pointAt p) := by
  have hbytes : (fieldBytes p 28).drop 1 = (p.drop 49).take 32 := by
    simp [fieldBytes, fieldWidths, List.drop_take]
  refine List.ext_getElem? fun i => ?_
  by_cases hi : i < envelopeCount p
  · have hpoint : (envelopeOf p)[i]? = (envelopePoints ((p.drop 49).take 32))[i]? := by
      rw [envelopeOf, hbytes, List.getElem?_take_of_lt hi]
    rw [hpoint, envelopePoints_getElem? _ _ (by simp [hl]; omega), List.getElem?_map, List.getElem?_range hi]
    have htake (k : Nat) (hk : k + 2 ≤ 32) : (((p.drop 49).take 32).drop k).take 2 = (p.drop (49 + k)).take 2 := by
      rw [List.drop_take, List.take_take, List.drop_drop, Nat.min_eq_left (by omega)]
    rw [htake _ (by omega), htake _ (by omega), show 49 + (4 * i + 2) = 51 + 4 * i by omega]
    rfl
  · rw [List.getElem?_eq_none (by rw [envelopeOf_length p hl hn]; omega),
      List.getElem?_eq_none (by simp; omega)]

theorem envelopeCount_eq (p : List Byte) : envelopeCount p = fieldAt p 48 1 := by
  simp [envelopeCount, fieldBytes, fieldWidths, unsignedBE, fieldAt, List.take_take]

/-- The check of the envelope in the statements' words (R191). -/
theorem envelope_check (p : List Byte) (hl : p.length = 115) (h : envelopePasses p = true) :
    within (envelopeCount p) 1 8 = true ∧ envelopeInRange (envelopeOf p) (fieldValue p 25) = true := by
  simp only [envelopePasses, ← envelopeCount_eq, Bool.and_eq_true, decide_eq_true_eq, List.all_eq_true,
    List.mem_range] at h
  obtain ⟨⟨⟨hlow, hhigh, hfirst, hlast⟩, htimes⟩, hsteps⟩ := h
  refine ⟨(within_iff _ _ _).mpr ⟨hlow, hhigh⟩, ?_⟩
  have hhead : ((List.range (envelopeCount p)).map (pointAt p)).head? = some (pointAt p 0) := by
    rw [List.head?_map, List.head?_range, if_neg (by omega)]
    rfl
  have hgetLast : ((List.range (envelopeCount p)).map (pointAt p)).getLast? =
      some (pointAt p (envelopeCount p - 1)) := by
    rw [List.getLast?_map, List.getLast?_range, if_neg (by omega)]
    rfl
  simp only [envelopeInRange, envelopeOf_eq p hl hhigh, hhead, hgetLast, Bool.and_eq_true, decide_eq_true_eq,
    List.all_eq_true, List.mem_map, List.mem_range]
  refine ⟨⟨⟨(envelope_pairwise_range _ _).mpr hsteps, hfirst⟩, ?_⟩, hlast⟩
  rintro _ ⟨i, hi, rfl⟩
  exact htimes i hi

/-! ### The other fields -/

theorem liesIn_eq_within (p : List Byte) (offset width low high : Nat) :
    liesIn p offset width low high = within (fieldAt p offset width) low high := by
  simp [liesIn, within]

theorem inputs_check (p : List Byte) (hl : p.length = 115) (h : fieldPasses p 42 = true) :
    inputsInRange p = true := by
  have hbytes : fieldBytes p 42 = (p.drop 108).take 4 := rfl
  simp only [fieldPasses, List.all_eq_true, List.mem_range, decide_eq_true_eq] at h
  simp only [inputsInRange, hbytes, List.all_eq_true, Bool.and_eq_true, decide_eq_true_eq]
  intro b hb
  obtain ⟨i, hi, rfl⟩ := List.getElem_of_mem hb
  simp only [List.length_take, List.length_drop, hl] at hi
  have hfield : fieldAt p (108 + i) 1 = p[108 + i].toNat := by
    rw [fieldAt, List.drop_eq_getElem_cons (by omega)]
    exact Nat.zero_add _
  have := h i (by omega)
  rw [hfield] at this
  simpa using this

/-- Field `k`, checked by its limits alone, passes the model's check. -/
theorem within_of_fieldPasses {p : List Byte} (h : everyFieldPasses p) {offset width low high : Nat} (k : Nat)
    (hk : fieldPasses p k = liesIn p offset width low high) (hb : 1 ≤ k ∧ k ≤ 43 := by decide) :
    within (fieldAt p offset width) low high = true := by
  rw [← liesIn_eq_within, ← hk]
  exact h k hb.1 hb.2

/-- A message whose fields all pass has no fault (R190). -/
theorem configurationFault_eq_none (p : List Byte) (hl : p.length = 115) (h : everyFieldPasses p) :
    configurationFault p = none := by
  have hnominal : (decide (fieldValue p 7 = 50) || decide (fieldValue p 7 = 60)) = true :=
    (Bool.decide_or _ _).symm.trans (h 7 (by decide) (by decide))
  have henvelope : (within (envelopeCount p) 1 8 && envelopeInRange (envelopeOf p) (fieldValue p 25)) = true :=
    (Bool.and_eq_true _ _).mpr (envelope_check p hl (h 28 (by decide) (by decide)))
  have hinputs : inputsInRange p = true := inputs_check p hl (h 42 (by decide) (by decide))
  have passes {offset width low high : Nat} (k : Nat) (hk : fieldPasses p k = liesIn p offset width low high)
      (hb : 1 ≤ k ∧ k ≤ 43 := by decide) : within (fieldAt p offset width) low high = true :=
    within_of_fieldPasses h k hk hb
  have hall : ∀ x ∈ configurationChecks p, x.2 = true := by
    simp only [configurationChecks, List.cons_append, List.nil_append, List.forall_mem_cons]
    have hphase := h 8 (by decide) (by decide)
    exact ⟨passes 1 rfl, passes 2 rfl, passes 3 rfl, passes 4 rfl, passes 5 rfl, passes 6 rfl, hnominal, hphase,
      passes 9 rfl, passes 10 rfl, passes 11 rfl, passes 12 rfl, passes 13 rfl, passes 14 rfl, passes 15 rfl,
      passes 16 rfl, passes 17 rfl, passes 18 rfl, passes 19 rfl, passes 20 rfl, passes 21 rfl, passes 22 rfl,
      passes 23 rfl, passes 24 rfl, passes 25 rfl, passes 26 rfl, passes 27 rfl, henvelope, passes 29 rfl,
      passes 30 rfl, passes 31 rfl, passes 32 rfl, passes 33 rfl, passes 34 rfl, passes 35 rfl, passes 36 rfl,
      passes 37 rfl, passes 38 rfl, passes 39 rfl, passes 40 rfl, passes 41 rfl, hinputs, by simp⟩
  simpa [configurationFault, List.find?_eq_none] using fun a b hab => hall (a, b) hab

/-! ### The configuration read -/

theorem inputOf_eq (p : List Byte) (hl : p.length = 115) (i : Fin 4) : inputOf p i = inputAt p i := by
  have hbyte : ((fieldBytes p 42).getD i.val 0#8).toNat = fieldAt p (108 + i) 1 := by
    have hbytes : fieldBytes p 42 = (p.drop 108).take 4 := rfl
    rw [hbytes, fieldAt, List.drop_eq_getElem_cons (i := 108 + i.val) (by omega), List.getD_eq_getElem?_getD,
      List.getElem?_take_of_lt i.isLt, List.getElem?_drop, List.getElem?_eq_getElem (by omega)]
    exact (Nat.zero_add _).symm
  unfold inputOf inputAt
  simp only [hbyte]
  generalize fieldAt p (108 + i.val) 1 / 16 = edge
  generalize fieldAt p (108 + i.val) 1 % 16 = action
  congr 1
  · match edge with
    | 0 | 1 | 2 | 3 => rfl
    | n + 4 => simp [edgeOfCode]
  · match action with
    | 0 | 1 => rfl
    | n + 2 => simp [actionOfCode]

theorem urgentOf_eq (p : List Byte) (i : Fin 24) :
    urgentOf p i = (p.getD (112 + i.val / 8) 0#8).getLsbD (i.val % 8) := by
  have hbytes : fieldBytes p 43 = (p.drop 112).take 3 := rfl
  rw [urgentOf, hbytes, List.getD_eq_getElem?_getD, List.getElem?_take_of_lt (by omega), List.getElem?_drop,
    ← List.getD_eq_getElem?_getD]

/-- The configuration of a message is its fields at their bytes (R190, R191). -/
theorem configurationOf_eq (p : List Byte) (hl : p.length = 115) (hn : envelopeCount p ≤ 8) :
    configurationOf p = spelledConfiguration p := by
  have henvelope := envelopeOf_eq p hl hn
  rw [envelopeCount_eq] at henvelope
  have hinputs : Vector.ofFn (inputOf p) = #v[inputAt p 0, inputAt p 1, inputAt p 2, inputAt p 3] := by
    simp only [funext (inputOf_eq p hl)]
    rfl
  have hurgent : Vector.ofFn (urgentOf p) =
      Vector.ofFn fun i : Fin 24 => (p.getD (112 + i.val / 8) 0#8).getLsbD (i.val % 8) :=
    congrArg _ (funext (urgentOf_eq p))
  unfold configurationOf spelledConfiguration
  rw [henvelope, hinputs, hurgent]
  rfl

/-! ### Acceptance -/

theorem nominalFigure_period (cfg : Configuration) :
    frequencyOf (nominalPeriod cfg) = if cfg.nominalHertz = 50 then 500 else 599 := by
  unfold frequencyOf nominalPeriod
  split <;> rfl

theorem nominalSector_micros (cfg : Configuration) (now : Micros) :
    afterMicros now (nominalSector cfg) = now + if cfg.nominalHertz = 50 then 3333#32 else 2777#32 := by
  unfold afterMicros nominalSector nominalPeriod
  split <;> rfl

/-- The Sampling Unit as LOAD CONFIG leaves it (R45, R46, R51). -/
theorem Sampler.activate_eq (m : Sampler) (cfg : Configuration) (now : Micros) (plant : PlantInputs) :
    m.activate cfg now plant = { m with
      mode := .free
      sector := some ⟨now, nominalPeriod cfg, 1⟩
      freeTimer := some (afterMicros now (nominalSector cfg))
      windowAB := slide m.windowAB (lineCount plant.lineAB)
      windowBC := slide m.windowBC (lineCount plant.lineBC)
      windowCA := slide m.windowCA (lineCount plant.lineCA)
      currentSum := plant.current.toNat
      voltageSum := plant.voltage.toNat
      sink := if cfg.temperatureFitted then some (sinkDegrees plant.sink) else m.sink } := by
  unfold Sampler.activate Sampler.beginSector Sampler.convert
  dsimp only
  split <;> simp [Sampler.convertSink]

/-- Settles O9: an accepted LOAD CONFIG activates every block. -/
theorem loadConfigAcceptedActivatesEveryBlock : Obligations.LoadConfigAcceptedActivatesEveryBlock := by
  intro s p plant cfg hr hl hn hpasses hcfg
  have hfault := configurationFault_eq_none p hl hpasses
  have hcount := (envelope_check p hl (hpasses 28 (by decide) (by decide))).1
  have heq : configurationOf p = cfg :=
    (configurationOf_eq p hl ((within_iff _ _ _).mp hcount).2).trans hcfg.symm
  have hrange : configurationInRange cfg = true := heq ▸ configurationOf_inRange p hl hfault
  have hside : clampSideOf cfg cfg.alphaMax = .high :=
    clampSideOf_alphaMax cfg (by have := configurationInRange_bounds cfg hrange; omega)
  refine ⟨(s.acceptConfiguration cfg plant).answer (plainResponse .done), ?_, rfl, ?_, ?_, rfl, rfl, rfl, rfl, ?_, ?_,
    rfl, rfl, rfl, rfl, rfl, rfl, rfl, rfl, rfl⟩
  · simp [exec, execLoadConfig, hr, State.takeLoadConfig, hl, hn, hfault, heq]
  · exact congrArg (fun f => { s.tracker with state := .unlocked, period := nominalPeriod cfg, figure := f })
      (nominalFigure_period cfg)
  · have hsampler : ((s.acceptConfiguration cfg plant).answer (plainResponse .done)).sampler =
        s.sampler.activate cfg s.time plant := rfl
    rw [hsampler, Sampler.activate_eq, nominalSector_micros]
    rfl
  · exact congrArg (fun side => { s.regulator with lastAngle := cfg.alphaMax, clampSide := side }) hside
  · intro n
    simp [State.acceptConfiguration, takeInputs]

end Sys2Proof.Machine
end

section
/-! SUPPORT. A share update in the ramping states STARTING, RESTART and STOPPING: steps 1 to 9, then the end test. -/

namespace Sys2Proof.Machine

/-! ### Figures of an update in the words of the statements -/

theorem applyPending_eq (a : Allocator) :
    a.applyPending = { a with demand := demandAtUpdate a, pendingDemand := none } := by
  unfold demandAtUpdate Allocator.applyPending
  cases a.pendingDemand <;> rfl

theorem shortfallCounted_eq (peers : List Peer) : peers.map Peer.shortfallCounted = shortfallsOf peers := by
  refine List.map_congr_left fun p _ => ?_
  unfold Peer.shortfallCounted codeOwes
  cases p.status <;> simp

theorem headroomCounted_eq (peers : List Peer) : peers.map Peer.headroomCounted = headroomsOf peers := by
  refine List.map_congr_left fun p _ => ?_
  unfold Peer.headroomCounted
  cases p.status <;> simp

theorem deliveredCounted_eq (peers : List Peer) : peers.map Peer.deliveredCounted = deliveriesOf peers := by
  refine List.map_congr_left fun p _ => ?_
  unfold Peer.deliveredCounted codeFires
  cases p.status <;> simp

theorem stateCode_eq (x : StationState) : x.code = stateNumber x := by cases x <;> rfl

/-- The ramp of step 7 in the words of the statements (R142, R143). -/
theorem rampedSetpoint_eq (a : Allocator) (steps : Steps) (state : StationState) (target : Nat) :
    rampedSetpoint steps state a.latestDcLimit a.setpoint target a.latestC =
      setpointMoved a (risingStep steps state) steps.down target := by
  unfold rampedSetpoint setpointMoved
  dsimp only
  split
  · split <;> rfl
  · rfl

/-! ### Steps 1 to 9 -/

/-- The ramping states whose updates are stated here: they fire and are neither RUN nor RIDE (R11, R17, R23). -/
abbrev StationState.Ramps (x : StationState) : Prop := x = .starting ∨ x = .restart ∨ x = .stopping

/-- The allocator's figures after an update in a ramping state: no headroom and no cover (R136 to R144). -/
theorem Allocator.update_of_ramps (a : Allocator) (cfg : Configuration) (state : StationState)
    (origin : Option StandbyOrigin) (peers : List Peer) (now : Micros) (steps : Steps) (hs : state.Ramps)
    (hsteps : a.steps = some steps) :
    a.update cfg state origin peers now =
      { a with
        demand := demandAtUpdate a
        pendingDemand := none
        setpoint := setpointMoved a (risingStep steps state) steps.down
          (targetOf state (demandAtUpdate a) a.latestC 0)
        target := targetOf state (demandAtUpdate a) a.latestC 0
        shortfall := ownShortfall state origin (demandAtUpdate a) a.setpoint a.latestC
        headroom := 0
        cover := 0
        shortfallSum := ownShortfall state origin (demandAtUpdate a) a.setpoint a.latestC + (shortfallsOf peers).sum
        headroomSum := (headroomsOf peers).sum
        groupDelivered := a.latestI + (deliveriesOf peers).sum
        dcHoldMarker := a.latestDcLimit &&
          (a.dcHoldMarker || decide (a.setpoint < targetOf state (demandAtUpdate a) a.latestC 0))
        capabilityMarker := false
        lastUpdate := some (now, a.ms) } := by
  have hfires : state.firing = true := by rcases hs with rfl | rfl | rfl <;> rfl
  have hrun : state ≠ .run := by rcases hs with rfl | rfl | rfl <;> decide
  have hheadroom : ownHeadroom cfg state (demandAtUpdate a) a.latestC = 0 := by simp [ownHeadroom, hrun]
  have hcover (x y z : Nat) : coverOf state x y z = 0 := by simp [coverOf, hrun]
  have hmarker (target : Nat) : dcMarkerAfter a.dcHoldMarker a.latestDcLimit
      (riseHeld state a.latestDcLimit a.setpoint target) =
        (a.latestDcLimit && (a.dcHoldMarker || decide (a.setpoint < target))) := by
    unfold dcMarkerAfter riseHeld
    cases a.latestDcLimit <;> simp [hfires]
  unfold Allocator.update
  simp only [applyPending_eq, sumWith, shortfallCounted_eq, headroomCounted_eq, deliveredCounted_eq, hfires,
    if_true, demandAboveCapability, hrun, decide_false, Bool.false_and, hsteps,
    Option.getD_some, rampedSetpoint_eq, hheadroom, hcover, hmarker, Nat.zero_add]

/-- Steps 1 to 9 of an update in a ramping state, with the timer set again (R86, R135 to R145). -/
theorem State.allocate_of_ramps (s : State) (cfg : Configuration) (due : Micros) (steps : Steps)
    (hs : s.station.state.Ramps) (hsteps : s.allocator.steps = some steps) :
    (s.restartShareTimer cfg due).allocate cfg =
      rampedFrom s cfg due (demandAtUpdate s.allocator)
        (targetOf s.station.state (demandAtUpdate s.allocator) s.allocator.latestC 0)
        (ownShortfall s.station.state s.station.standbyOrigin (demandAtUpdate s.allocator) s.allocator.setpoint
          s.allocator.latestC)
        (setpointMoved s.allocator (risingStep steps s.station.state) steps.down
          (targetOf s.station.state (demandAtUpdate s.allocator) s.allocator.latestC 0)) := by
  have hfires : s.station.state.firing = true := by rcases hs with hs | hs | hs <;> rw [hs] <;> rfl
  have hupdate := (s.restartShareTimer cfg due).allocator.update_of_ramps cfg s.station.state s.station.standbyOrigin
    s.peers s.time steps hs hsteps
  generalize htarget : targetOf s.station.state (demandAtUpdate s.allocator) s.allocator.latestC 0 = target
  have htarget' : targetOf s.station.state (demandAtUpdate (s.restartShareTimer cfg due).allocator)
      (s.restartShareTimer cfg due).allocator.latestC 0 = target := htarget
  rw [htarget'] at hupdate
  unfold State.allocate
  simp only [State.restartShareTimer_frame]
  rw [hupdate]
  simp only [Allocator.countsDcLimit, Allocator.countsCapability, Bool.false_and, riseHeld, hfires, Bool.true_and]
  have hheld : (s.allocator.latestDcLimit && decide (s.allocator.setpoint < target) && !s.allocator.dcHoldMarker) =
      decide (s.allocator.latestDcLimit = true ∧ s.allocator.setpoint < target ∧ s.allocator.dcHoldMarker = false) := by
    cases s.allocator.latestDcLimit <;> cases s.allocator.dcHoldMarker <;> simp
  have hrestarted : (s.restartShareTimer cfg due).allocator.latestDcLimit = s.allocator.latestDcLimit ∧
      (s.restartShareTimer cfg due).allocator.setpoint = s.allocator.setpoint ∧
      (s.restartShareTimer cfg due).allocator.dcHoldMarker = s.allocator.dcHoldMarker := ⟨rfl, rfl, rfl⟩
  obtain ⟨hlimit, hsetpoint, hmarker⟩ := hrestarted
  simp only [hlimit, hsetpoint, hmarker, hheld]
  unfold rampedFrom rampEvents
  rw [← stateCode_eq]
  by_cases hcounts : s.allocator.latestDcLimit = true ∧ s.allocator.setpoint < target ∧ s.allocator.dcHoldMarker = false
    <;> cases hslot : s.line.shareSlot
    <;> simp [State.countIf, State.placeShare, hcounts, hslot]
    <;> rfl

/-! ### The end test -/

section
variable {s u : State} {cfg : Configuration}

/-- The share timer has run out in a state in which updates run: the update is run whole (R135, R136, R146). -/
theorem exec_shareUpdate_of (due : Micros) (hc : s.port.config = some cfg) (ht : s.allocator.shareTimer = some due)
    (hdue : (s.time - due).toNat < 2 ^ 31) :
    exec .shareUpdate s = .next (if s.station.state.updates then
      ((s.restartShareTimer cfg due).allocate cfg).endOfUpdate cfg s.allocator.elapsedMs
      else s.restartShareTimer cfg due) := by
  have hreached : s.shareDue = true := by
    simp only [State.shareDue, reached, ht, atOrAfter, decide_eq_true hdue]
  have hexpiry : s.shareExpiry cfg = if s.station.state.updates then
      ((s.restartShareTimer cfg due).allocate cfg).endOfUpdate cfg s.allocator.elapsedMs
      else s.restartShareTimer cfg due := by
    unfold State.shareExpiry
    rw [ht]
    rfl
  have hconfigured : s.configured (fun cfg => if s.shareDue then s.shareExpiry cfg else s) = s.shareExpiry cfg := by
    simp [State.configured, hc, hreached]
  rw [← hexpiry, ← hconfigured]
  rfl

/-- The end test of STARTING (R11). -/
theorem State.endOfUpdate_starting (elapsed : Nat) (hs : u.station.state = .starting) (hfits : u.station.StackFits) :
    u.endOfUpdate cfg elapsed =
      if u.allocator.setpoint = u.allocator.target then { u with station := enteredStation .run u.time } else u := by
  have hstack := hfits.stack_eq_nil (by rw [hs]; rfl)
  unfold State.endOfUpdate
  rw [hs]
  dsimp only
  rw [State.enter_run (by simp [hs]) (by simp [hs]), hstack]
  rfl

/-- The end test of RESTART against the bottom record's setpoint at entry (R17). -/
theorem State.endOfUpdate_restart (elapsed : Nat) (bottom : ContextRecord) (hs : u.station.state = .restart)
    (hbottom : u.station.stack.head? = some bottom) :
    u.endOfUpdate cfg elapsed =
      if min u.allocator.target bottom.setpointAtEntry ≤ u.allocator.setpoint then
        counted (alerted { u with station := enteredStation .run u.time }
          (alertOf u .recovered 3 (u.allocator.demand - u.sampler.figures.capability))) [.recovered]
      else u := by
  have hthreshold : u.completionThreshold = min u.allocator.target bottom.setpointAtEntry := by
    simp [State.completionThreshold, hbottom]
  have hcomplete : u.completeRestart cfg =
      counted (alerted { u with station := enteredStation .run u.time }
        (alertOf u .recovered 3 (u.allocator.demand - u.sampler.figures.capability))) [.recovered] := by
    unfold State.completeRestart
    rw [State.enter_run (by simp [hs]) (by simp [hs]), State.queueAlert_eq]
    rfl
  unfold State.endOfUpdate
  rw [hs]
  dsimp only
  rw [hthreshold, hcomplete]

/-- The end test of STOPPING (R23). -/
theorem State.endOfUpdate_stopping (elapsed : Nat) (h : configurationInRange cfg = true)
    (hs : u.station.state = .stopping) (hfits : u.station.StackFits) :
    u.endOfUpdate cfg elapsed =
      if u.allocator.setpoint = 0 ∧ u.sampler.figures.current ≤ cfg.currentZero then arrivedFrom u cfg else u := by
  unfold State.endOfUpdate
  rw [hs]
  dsimp only
  rw [State.testStopping, State.stoppingEnded, State.enterDestination_eq h hs hfits]
  simp

end

/-- Settles O35: the update is `rampedFrom` by `State.allocate_of_ramps`, and each ramping state has its end test. -/
theorem shareUpdateEndsTheRamps : Obligations.ShareUpdateEndsTheRamps := by
  intro s u cfg due steps demand goal own setpoint hc ht hdue hrange hsteps hdemand hfits hu
  have hexec := exec_shareUpdate_of due hc ht hdue
  have hufits : u.station.StackFits := by rw [hu]; exact hfits
  have hustate : u.station.state = s.station.state := by rw [hu]; rfl
  have husetpoint : u.allocator.setpoint = setpoint := by rw [hu]; rfl
  have hutarget : u.allocator.target = goal := by rw [hu]; rfl
  have hudemand : u.allocator.demand = demand := by rw [hu]; rfl
  refine ⟨fun hs => ?_, fun hs hgoal hown hsetpoint => ?_, fun bottom hs hbottom hgoal hown hsetpoint => ?_,
    fun hs hgoal hown hsetpoint => ?_⟩
  case refine_1 =>
    rw [hexec, hs]
    rfl
  all_goals rw [hs] at hustate
  case refine_2 =>
    have hallocate : (s.restartShareTimer cfg due).allocate cfg = u := by
      rw [State.allocate_of_ramps s cfg due steps (.inl hs) hsteps, hs, ← hdemand, hu, hown, hsetpoint, hgoal]
      rfl
    rw [hexec, hs, if_pos (show StationState.updates _ = true from rfl), hallocate,
      State.endOfUpdate_starting _ hustate hufits, husetpoint, hutarget, hu]
    refine ⟨fun hreached => ?_, fun hreached => ?_⟩
    · rw [if_pos hreached]
      rfl
    · rw [if_neg hreached]
  case refine_3 =>
    have hallocate : (s.restartShareTimer cfg due).allocate cfg = u := by
      rw [State.allocate_of_ramps s cfg due steps (.inr (.inl hs)) hsteps, hs, ← hdemand, hu, hown, hsetpoint, hgoal]
      rfl
    rw [hexec, hs, if_pos (show StationState.updates _ = true from rfl), hallocate,
      State.endOfUpdate_restart _ bottom hustate (by rw [hu]; exact hbottom), husetpoint,
      hutarget, hudemand, hu]
    refine ⟨fun hreached => ?_, fun hreached => ?_⟩
    · rw [if_pos hreached]
      rfl
    · rw [if_neg (by omega)]
  case refine_4 =>
    have hmoved : setpointMoved s.allocator steps.up steps.down 0 = setpoint := by
      simp [setpointMoved, hsetpoint]
    have hallocate : (s.restartShareTimer cfg due).allocate cfg = u := by
      rw [State.allocate_of_ramps s cfg due steps (.inr (.inr hs)) hsteps, hs, ← hdemand, hu, hown, hgoal, ← hmoved]
      rfl
    have hcurrent : u.sampler.figures.current = s.sampler.figures.current := by rw [hu]; rfl
    rw [hexec, hs, if_pos (show StationState.updates _ = true from rfl), hallocate,
      State.endOfUpdate_stopping _ hrange hustate hufits, husetpoint, hcurrent]
    refine ⟨fun hreached => ?_, fun hzero hcurrentZero => ?_⟩
    · rw [if_neg (by omega)]
    · rw [if_pos ⟨hzero, hcurrentZero⟩]

end Sys2Proof.Machine
end

section
/-! SUPPORT. Characters that are received: the frame under assembly while it has not ended, the frame handed to the
filter by its last character, and the framing stage on the bytes handed over (R80, R89, R103). -/

namespace Sys2Proof.Machine

/-! ### Fields of a frame's bytes -/

theorem fieldAt_one (data : List Byte) (i : Nat) : fieldAt data i 1 = byteAt data i := by
  unfold fieldAt byteAt
  rw [List.getD_eq_getElem?_getD, ← List.head?_drop]
  cases data.drop i <;> simp

theorem fieldAt_two (data : List Byte) (i : Nat) (h : i + 1 < data.length) : fieldAt data i 2 = wordAt data i := by
  unfold fieldAt wordAt byteAt
  rw [List.drop_eq_getElem_cons (Nat.lt_of_succ_lt h), List.drop_eq_getElem_cons h]
  simp only [List.take_succ_cons, List.take_zero, List.foldl_cons, List.foldl_nil, Nat.zero_mul, Nat.zero_add,
    List.getD_eq_getElem?_getD, List.getElem?_eq_getElem h, List.getElem?_eq_getElem (Nat.lt_of_succ_lt h),
    Option.getD_some]

theorem fieldAt_append_one (xs ys : List Byte) (i : Nat) (h : i < xs.length) :
    fieldAt (xs ++ ys) i 1 = fieldAt xs i 1 := by
  rw [fieldAt_one, fieldAt_one, byteAt, byteAt, List.getD_append _ _ _ _ h]

/-! ### When a frame under assembly has ended (R80) -/

/-- The bytes make a whole frame: as many as the fourth of them gives, or twenty-two when it gives no length. -/
abbrev wholeBytes (bytes : List Byte) : Prop :=
  4 ≤ bytes.length ∧
    ((lengthKnown bytes ∧ bytes.length = fieldAt bytes 3 1 + 6) ∨ (¬ lengthKnown bytes ∧ bytes.length = 22))

theorem lengthKnown_append (xs ys : List Byte) (h : 4 ≤ xs.length) : lengthKnown (xs ++ ys) ↔ lengthKnown xs := by
  unfold lengthKnown
  rw [fieldAt_append_one xs ys 3 h]

/-- A frame that has not ended had not ended before. -/
theorem unended_of_append (xs ys : List Byte) (h : unended (xs ++ ys)) : unended xs := by
  by_cases hshort : xs.length < 4
  · exact .inl hshort
  · unfold unended at h ⊢
    rw [lengthKnown_append xs ys (by omega), fieldAt_append_one xs ys 3 (by omega), List.length_append] at h
    rcases h with h | ⟨hknown, h⟩ | ⟨hknown, h⟩
    · omega
    · exact .inr (.inl ⟨hknown, by omega⟩)
    · exact .inr (.inr ⟨hknown, by omega⟩)

/-- Up to its last byte a whole frame has not ended. -/
theorem unended_of_whole (xs : List Byte) (b : Byte) (h : wholeBytes (xs ++ [b])) : unended xs := by
  obtain ⟨hlength, h⟩ := h
  by_cases hshort : xs.length < 4
  · exact .inl hshort
  · rw [lengthKnown_append xs _ (by omega), fieldAt_append_one xs _ 3 (by omega), List.length_append,
      List.length_singleton] at h
    rcases h with ⟨hknown, h⟩ | ⟨hknown, h⟩
    · exact .inr (.inl ⟨hknown, by omega⟩)
    · exact .inr (.inr ⟨hknown, by omega⟩)

theorem not_unended_of_whole (bytes : List Byte) (h : wholeBytes bytes) : ¬ unended bytes := by
  obtain ⟨hlength, h⟩ := h
  unfold unended
  rcases h with ⟨hknown, h⟩ | ⟨hknown, h⟩ <;> simp [hknown] <;> omega

/-- A length is one of the three of R80. -/
theorem validLength_iff (n : Nat) : validLength n = true ↔ n = 0 ∨ n = 8 ∨ n = 16 := by simp [validLength]

theorem assembledLength_of_short (bytes : List Byte) (h : bytes.length < 4) : assembledLength bytes = none := by
  unfold assembledLength
  split
  · simp at h
    omega
  · rfl

theorem assembledLength_of_long (bytes : List Byte) (h : 4 ≤ bytes.length) :
    assembledLength bytes = some (fieldAt bytes 3 1) := by
  match bytes, h with
  | b0 :: b1 :: b2 :: b3 :: rest, _ =>
    rw [fieldAt_one]
    rfl

theorem Assembly.ended_iff (a : Assembly) : a.ended = true ↔ ¬ unended a.bytes := by
  unfold Assembly.ended unended
  by_cases h : a.bytes.length < 4
  · simp [assembledLength_of_short _ h, h]
  · rw [assembledLength_of_long _ (by omega)]
    by_cases hknown : lengthKnown a.bytes
    · simp only [if_pos ((validLength_iff _).mpr hknown), decide_eq_true_eq, h, hknown, false_or, not_true, true_and,
        false_and, or_false]
      omega
    · simp only [if_neg (mt (validLength_iff _).mp hknown), decide_eq_true_eq, h, hknown, false_or,
        not_false_eq_true, true_and, false_and, not_lt]

/-! ### Characters joining the frame under assembly (R78, R80) -/

/-- The frame under assembly after a run of characters. -/
def Assembly.appendAll (a : Assembly) (cs : List Character) : Assembly := cs.foldl Assembly.append a

theorem Assembly.appendAll_cons (a : Assembly) (c : Character) (cs : List Character) :
    a.appendAll (c :: cs) = (a.append c).appendAll cs := rfl

theorem Assembly.appendAll_append (a : Assembly) (cs ds : List Character) :
    a.appendAll (cs ++ ds) = (a.appendAll cs).appendAll ds := List.foldl_append

theorem Assembly.appendAll_bytes (a : Assembly) (cs : List Character) :
    (a.appendAll cs).bytes = a.bytes ++ cs.map characterData := by
  induction cs generalizing a with
  | nil => simp [Assembly.appendAll]
  | cons c cs ih => simp [Assembly.appendAll_cons, ih, Assembly.append]

/-- A frame is marked malformed by a bad stop bit, or by a fourth character that gives no length (R78, R80). -/
theorem Assembly.appendAll_malformed (a : Assembly) (cs : List Character) :
    (a.appendAll cs).malformed = true ↔ a.malformed = true ∨ (∃ c ∈ cs, characterError c = true) ∨
      (a.bytes.length < 4 ∧ 4 ≤ (a.appendAll cs).bytes.length ∧ ¬ lengthKnown (a.appendAll cs).bytes) := by
  induction cs generalizing a with
  | nil =>
    simp [Assembly.appendAll]
    omega
  | cons c cs ih =>
    have hbytes : ((a.append c).appendAll cs).bytes = a.bytes ++ [characterData c] ++ cs.map characterData := by
      rw [Assembly.appendAll_bytes]
      rfl
    have hlength : (a.append c).bytes.length = a.bytes.length + 1 := by simp [Assembly.append]
    have hmalformed : (a.append c).malformed = true ↔ a.malformed = true ∨ characterError c = true ∨
        (a.bytes.length = 3 ∧ ¬ lengthKnown ((a.append c).appendAll cs).bytes) := by
      have hfourth (h3 : a.bytes.length = 3) : lengthKnown ((a.append c).appendAll cs).bytes ↔
          validLength (characterData c).toNat = true := by
        rw [hbytes, lengthKnown_append _ _ (by simp [h3]), validLength_iff, lengthKnown, fieldAt_one, byteAt,
          List.getD_append_right _ _ _ _ (by omega)]
        simp [h3]
      by_cases h3 : a.bytes.length = 3
      · rw [hfourth h3]
        simp [Assembly.append, h3, or_assoc]
      · simp [Assembly.append, h3]
    rw [Assembly.appendAll_cons, ih, hmalformed, hlength]
    have hgrown : a.bytes.length + 1 ≤ ((a.append c).appendAll cs).bytes.length := by
      rw [hbytes]
      simp
    by_cases h3 : a.bytes.length = 3
    · simp [h3]
      grind
    · have : a.bytes.length + 1 < 4 ↔ a.bytes.length < 4 := by omega
      simp only [this, h3]
      grind

/-! ### Receiving characters (R80, R89) -/

section
variable {s : State} {cfg : Configuration} {a : Assembly}

/-- Characters that end no frame are the frame under assembly. -/
theorem State.receiveCharacters_unended (cs : List Character) (hcs : cs ≠ [])
    (ha : s.line.assembly.getD Assembly.begun = a) (h : unended (a.bytes ++ cs.map characterData)) :
    s.receiveCharacters cfg cs =
      { s with line := { s.line with view := .busy, assembly := some (a.appendAll cs) } } := by
  induction cs generalizing s a with
  | nil => contradiction
  | cons c cs ih =>
    have hbytes : a.bytes ++ (c :: cs).map characterData = (a.append c).bytes ++ cs.map characterData := by
      simp [Assembly.append]
    rw [hbytes] at h
    have hrunning : (a.append c).ended = false := by
      have := (a.append c).ended_iff
      have := unended_of_append _ _ h
      simp_all
    have hfirst : s.receiveCharacter cfg c =
        { s with line := { s.line with view := .busy, assembly := some (a.append c) } } := by
      unfold State.receiveCharacter
      rw [ha]
      simp only [hrunning]
      rfl
    have hrest : s.receiveCharacters cfg (c :: cs) = (s.receiveCharacter cfg c).receiveCharacters cfg cs := rfl
    rw [hrest, hfirst]
    by_cases hnil : cs = []
    · subst hnil
      rfl
    · rw [ih (a := a.append c) hnil rfl h]
      rfl

/-- The character that ends a frame hands it to the filter. -/
theorem State.receiveCharacters_whole (cs : List Character) (hcs : cs ≠ [])
    (ha : s.line.assembly.getD Assembly.begun = a) (h : wholeBytes (a.bytes ++ cs.map characterData)) :
    s.receiveCharacters cfg cs =
      ({ s with line := heardLine s.line } : State).filterFrame cfg (a.bytes ++ cs.map characterData)
        (a.appendAll cs).malformed := by
  obtain ⟨front, last, rfl⟩ : ∃ front last, cs = front ++ [last] := ⟨_, _, (List.dropLast_append_getLast hcs).symm⟩
  have hbytes : a.bytes ++ (front ++ [last]).map characterData =
      (a.bytes ++ front.map characterData) ++ [characterData last] := by simp
  have hends : ((a.appendAll front).append last).ended = true := by
    rw [Assembly.ended_iff]
    have := not_unended_of_whole _ h
    rwa [← Assembly.appendAll_bytes, Assembly.appendAll_append] at this
  have hlast (t : State) (ht : t.line.assembly.getD Assembly.begun = a.appendAll front)
      (hline : heardLine t.line = heardLine s.line) (hrest : { t with line := s.line } = s) :
      t.receiveCharacter cfg last = ({ s with line := heardLine s.line } : State).filterFrame cfg
        (a.bytes ++ (front ++ [last]).map characterData) (a.appendAll (front ++ [last])).malformed := by
    have hheard : ({ t with line := heardLine t.line } : State) = { s with line := heardLine s.line } := by
      rw [hline, ← hrest]
    unfold State.receiveCharacter
    rw [ht]
    simp only [hends, if_true]
    rw [← Assembly.appendAll_bytes, Assembly.appendAll_append, ← hheard]
    rfl
  have hsplit : s.receiveCharacters cfg (front ++ [last]) =
      (s.receiveCharacters cfg front).receiveCharacter cfg last := by
    unfold State.receiveCharacters
    rw [List.foldl_append]
    rfl
  rw [hsplit]
  by_cases hnil : front = []
  · subst hnil
    exact hlast s ha rfl rfl
  · rw [State.receiveCharacters_unended front hnil ha (unended_of_whole _ (characterData last) (hbytes ▸ h))]
    exact hlast _ rfl rfl rfl

end

end Sys2Proof.Machine
end

section
/-! SUPPORT. Frames on the line: the framing stage on the bytes of a frame, the characters of a whole frame received by a
listening part, and the characters read back after a collision (R78, R80, R88, R95, R100, R102 to R105). -/

namespace Sys2Proof.Machine

/-! ### The bytes of a frame (R95, R100) -/

theorem Body.bytes_length (b : Body) : bodyLengthOf b.kindCode = some b.bytes.length := by
  cases b <;> rfl

theorem bodyLengthOf_cases {kind n : Nat} (h : bodyLengthOf kind = some n) :
    (kind = 1 ∧ n = 16) ∨ (kind = 2 ∧ n = 8) ∨ (kind = 3 ∧ n = 0) := by
  unfold bodyLengthOf at h
  split at h
  · simp_all
  · split at h
    · simp_all
    · split at h
      · simp_all
      · contradiction

theorem Body.bytes_length_known (b : Body) : b.bytes.length = 0 ∨ b.bytes.length = 8 ∨ b.bytes.length = 16 := by
  rcases bodyLengthOf_cases b.bytes_length with h | h | h <;> simp [h.2]

theorem Frame.payload_length (f : Frame) : f.payload.length = f.body.bytes.length + 4 := by
  simp [Frame.payload]

theorem Frame.bytes_length (f : Frame) : f.bytes.length = f.body.bytes.length + 6 := by
  simp [Frame.bytes, Frame.payload_length]

theorem Frame.fieldAt_length (f : Frame) (xs : List Byte) : fieldAt (f.payload ++ xs) 3 1 = f.body.bytes.length := by
  have hbyte : byteAt (f.payload ++ xs) 3 = (BitVec.ofNat 8 f.body.bytes.length).toNat := rfl
  rw [fieldAt_one, hbyte, BitVec.toNat_ofNat]
  rcases f.body.bytes_length_known with h | h | h <;> simp [h]

theorem Frame.lengthKnown_payload (f : Frame) (xs : List Byte) : lengthKnown (f.payload ++ xs) := by
  unfold lengthKnown
  rw [f.fieldAt_length xs]
  exact f.body.bytes_length_known

/-- The payload with two bytes of check after it makes a whole frame. -/
theorem Frame.wholeBytes_payload (f : Frame) (hi lo : Byte) : wholeBytes (f.payload ++ [hi, lo]) := by
  refine ⟨by simp [f.payload_length], .inl ⟨f.lengthKnown_payload _, ?_⟩⟩
  simp [f.fieldAt_length, f.payload_length]

/-! ### The framing stage (R103) -/

theorem frameOf_cons (b0 b1 b2 b3 : Byte) (rest : List Byte) :
    frameOf (b0 :: b1 :: b2 :: b3 :: rest) =
      if bodyLengthOf (b0.toNat / 16) = some b3.toNat ∧ rest.length = b3.toNat + 2 ∧
          be16 (crc16 ((b0 :: b1 :: b2 :: b3 :: rest).take (4 + b3.toNat))).toNat = rest.drop b3.toNat then
        (bodyOf (b0.toNat / 16) (rest.take b3.toNat)).map fun body =>
          { station := b0.toNat % 16, group := b1.toNat / 64, first := b1.getLsbD 5, sequence := b2, body := body }
      else none := rfl

/-- A wrong check gives no frame (R100, R103). -/
theorem Frame.frameOf_wrongCheck (f : Frame) (hi lo : Byte) (h : f.payload ++ [hi, lo] ≠ f.bytes) :
    frameOf (f.payload ++ [hi, lo]) = none := by
  have hlength : (BitVec.ofNat 8 f.body.bytes.length : Byte).toNat = f.body.bytes.length := by
    rcases f.body.bytes_length_known with hn | hn | hn <;> simp [hn]
  have hshape : f.payload ++ [hi, lo] = _ :: _ :: _ :: BitVec.ofNat 8 f.body.bytes.length :: (f.body.bytes ++ [hi, lo]) :=
    rfl
  have htake : (f.payload ++ [hi, lo]).take (4 + f.body.bytes.length) = f.payload := by
    rw [List.take_append_of_le_length (by rw [f.payload_length]; omega), List.take_of_length_le]
    rw [f.payload_length]
    omega
  rw [hshape, frameOf_cons, ← hshape, hlength, htake, if_neg]
  rintro ⟨-, -, hcheck⟩
  rw [List.drop_left] at hcheck
  exact h (by rw [Frame.bytes, hcheck])

/-- A frame whose kind, length or fields no frame can have gives no frame (R103). -/
theorem frameOf_spoilt (b0 b1 b2 b3 : Byte) (rest : List Byte) (hlength : rest.length = b3.toNat + 2)
    (h : spoilt (b0.toNat / 16) b3.toNat rest) : frameOf (b0 :: b1 :: b2 :: b3 :: rest) = none := by
  rw [frameOf_cons]
  split
  case isFalse => rfl
  case isTrue hframe =>
    obtain ⟨hkind, -, -⟩ := hframe
    have hbyte (i : Nat) (hi : i < b3.toNat) : byteAt (rest.take b3.toNat) i = fieldAt rest i 1 := by
      rw [fieldAt_one, byteAt, byteAt, List.getD_eq_getElem?_getD, List.getD_eq_getElem?_getD,
        List.getElem?_take_of_lt hi]
    have hword (hi : 3 < b3.toNat) : wordAt (rest.take b3.toNat) 2 = fieldAt rest 2 2 := by
      rw [fieldAt_two _ _ (by omega), wordAt, wordAt, hbyte 2 (by omega), hbyte 3 hi, fieldAt_one, fieldAt_one]
    rcases bodyLengthOf_cases hkind with ⟨hk, hn⟩ | ⟨hk, hn⟩ | ⟨hk, hn⟩
    · have hb0 := hbyte 0 (by omega)
      have hb1 := hbyte 1 (by omega)
      have hw2 := hword (by omega)
      simp only [spoilt, hk, hn] at h
      simp only [bodyOf, hk, hb0, hb1, hw2, within]
      simp
      omega
    · have hb0 := hbyte 0 (by omega)
      have hb1 := hbyte 1 (by omega)
      have hw2 := hword (by omega)
      simp only [spoilt, hk, hn] at h
      simp only [bodyOf, hk, hb0, hb1, hw2, within, alertKindOf]
      simp
      grind
    · simp only [spoilt, hk, hn] at h
      omega

/-! ### The bytes of a frame in range are read back (R95, R96) -/

theorem Body.bodyOf_bytes (b : Body) (h : b.inRange = true) : bodyOf b.kindCode b.bytes = some b := by
  cases b with
  | share b =>
    obtain ⟨stateCode, sharePeriod, voltage, demand, delivered, capability, shortfall, headroom, cover⟩ := b
    simp only [Body.inRange, Bool.and_eq_true, within_iff] at h
    simp [bodyOf, Body.kindCode, Body.bytes, be16, byteAt, wordAt, within]
    omega
  | alert b =>
    obtain ⟨kind, stateCode, voltage, capability, shortfall⟩ := b
    simp only [Body.inRange, Bool.and_eq_true, within_iff] at h
    have hkind : alertKindOf (kind.code % 256) = some kind := by cases kind <;> rfl
    simp [bodyOf, Body.kindCode, Body.bytes, be16, byteAt, wordAt, within, hkind]
    omega
  | leave => rfl

theorem Frame.frameOf_bytes (f : Frame) (h : f.inRange = true) : frameOf f.bytes = some f := by
  simp only [Frame.inRange, Bool.and_eq_true, decide_eq_true_eq] at h
  obtain ⟨⟨hstation, hgroup⟩, hbody⟩ := h
  have hkind : 1 ≤ f.body.kindCode ∧ f.body.kindCode ≤ 3 := by cases f.body <;> simp [Body.kindCode]
  have hlength : (BitVec.ofNat 8 f.body.bytes.length : Byte).toNat = f.body.bytes.length := by
    rcases f.body.bytes_length_known with hn | hn | hn <;> simp [hn]
  have hfirst : (BitVec.ofNat 8 (f.body.kindCode * 16 + f.station)).toNat = f.body.kindCode * 16 + f.station := by
    simp
    omega
  have hsecond : (BitVec.ofNat 8 (f.group * 64 + if f.first then 32 else 0)).toNat =
      f.group * 64 + if f.first then 32 else 0 := by
    simp
    split <;> omega
  have hflag : (BitVec.ofNat 8 (f.group * 64 + if f.first then 32 else 0)).getLsbD 5 = f.first := by
    have hg : f.group = 0 ∨ f.group = 1 ∨ f.group = 2 ∨ f.group = 3 := by omega
    rcases hg with hg | hg | hg | hg <;> cases f.first <;> simp [hg]
  have hshape : f.bytes = BitVec.ofNat 8 (f.body.kindCode * 16 + f.station) ::
      BitVec.ofNat 8 (f.group * 64 + if f.first then 32 else 0) :: f.sequence ::
      BitVec.ofNat 8 f.body.bytes.length :: (f.body.bytes ++ be16 (crc16 f.payload).toNat) := rfl
  have htake : f.bytes.take (4 + f.body.bytes.length) = f.payload := by
    rw [Frame.bytes, List.take_append_of_le_length (by rw [f.payload_length]; omega), List.take_of_length_le]
    rw [f.payload_length]
    omega
  have hcode : (f.body.kindCode * 16 + f.station) / 16 = f.body.kindCode := by omega
  rw [hshape, frameOf_cons, ← hshape, hlength, htake, hfirst, hsecond, hflag, hcode, List.take_left, List.drop_left,
    f.body.bodyOf_bytes hbody, if_pos ⟨f.body.bytes_length, by simp, rfl⟩]
  have hnumber : (f.body.kindCode * 16 + f.station) % 16 = f.station := by omega
  have hgroupOf : (f.group * 64 + if f.first then 32 else 0) / 64 = f.group := by split <;> omega
  rw [Option.map_some, hnumber, hgroupOf]

/-! ### Good and bad characters (R78) -/

theorem map_characterData_map_characterOf (bytes : List Byte) :
    (bytes.map characterOf).map characterData = bytes := by
  rw [List.map_map]
  exact (List.map_congr_left fun b _ => characterData_characterOf b).trans (List.map_id bytes)

theorem no_characterError_of_map (bytes : List Byte) : ∀ c ∈ bytes.map characterOf, characterError c = false := by
  intro c hc
  obtain ⟨b, -, rfl⟩ := List.mem_map.mp hc
  exact characterError_characterOf b

/-- Good characters make a frame malformed by an unknown length alone. -/
theorem Assembly.appendAll_characterOf (bytes : List Byte) (h : lengthKnown bytes ∨ bytes.length < 4) :
    Assembly.begun.appendAll (bytes.map characterOf) = ⟨bytes, false⟩ := by
  have hbytes : (Assembly.begun.appendAll (bytes.map characterOf)).bytes = bytes := by
    rw [Assembly.appendAll_bytes, map_characterData_map_characterOf]
    rfl
  have hgood : (Assembly.begun.appendAll (bytes.map characterOf)).malformed = false := by
    rw [← Bool.not_eq_true, Assembly.appendAll_malformed, hbytes]
    rintro (hmark | ⟨c, hc, herror⟩ | ⟨-, hlength, hunknown⟩)
    · exact Bool.noConfusion hmark
    · rw [no_characterError_of_map bytes c hc] at herror
      exact Bool.noConfusion herror
    · rcases h with h | h
      · exact hunknown h
      · omega
  cases happended : Assembly.begun.appendAll (bytes.map characterOf)
  rw [happended] at hbytes hgood
  cases hbytes
  cases hgood
  rfl

/-- A stop bit turned dominant leaves the data and is a character error (R78). -/
theorem characterData_spoilt (b : Byte) : characterData (characterOf b &&& 0x1FF#10) = b := by
  revert b
  decide +kernel

theorem characterError_spoilt (b : Byte) : characterError (characterOf b &&& 0x1FF#10) = true := by
  simp [characterError]

/-! ### Frames received by a listening part (R80, R102 to R105) -/

section
variable {s : State} {cfg : Configuration}

theorem receiving_of_listening (h : listening s) : s.line.receiving = true := by
  obtain ⟨hview, htransmission, -⟩ := h
  rcases hview with hview | hview <;> simp [ShareLine.receiving, hview, htransmission]

theorem assembly_of_listening (h : listening s) : s.line.assembly.getD Assembly.begun = Assembly.begun := by
  obtain ⟨-, -, hassembly⟩ := h
  rcases hassembly with hassembly | hassembly <;> rw [hassembly] <;> rfl

theorem exec_frameReceived_of (cs : List Character) (hc : s.port.config = some cfg) (hr : s.line.receiving = true) :
    exec (.frameReceived cs) s = .next (s.receiveCharacters cfg cs) := by
  have hconfigured : s.configured (fun cfg => if s.line.receiving then s.receiveCharacters cfg cs else s) =
      s.receiveCharacters cfg cs := by
    simp [State.configured, hc, hr]
  rw [← hconfigured]
  rfl

/-- A whole frame is handed to the filter. -/
theorem exec_frameReceived_whole (cs : List Character) (bytes : List Byte) (hc : s.port.config = some cfg)
    (hl : listening s) (hbytes : cs.map characterData = bytes) (h : wholeBytes bytes) :
    exec (.frameReceived cs) s = .next (({ s with line := heardLine s.line } : State).filterFrame cfg bytes
      (Assembly.begun.appendAll cs).malformed) := by
  have hcs : cs ≠ [] := by
    rintro rfl
    subst hbytes
    exact absurd h.1 (by simp)
  rw [exec_frameReceived_of cs hc (receiving_of_listening hl),
    State.receiveCharacters_whole cs hcs (assembly_of_listening hl) (by rw [hbytes]; exact h), hbytes]
  rfl

/-- A frame that is malformed, or that the framing stage does not read, is discarded (R103). -/
theorem State.filterFrame_discards (bytes : List Byte) (malformed : Bool)
    (h : malformed = true ∨ frameOf bytes = none) : s.filterFrame cfg bytes malformed = discarded s := by
  have hnone : (if malformed then none else frameOf bytes) = none := by
    rcases h with rfl | h
    · rfl
    · rw [h, ite_self]
  unfold State.filterFrame
  rw [hnone]
  rfl

/-- An intact frame passes on to the stages after framing (R102). -/
theorem State.filterFrame_passes (f : Frame) (h : f.inRange = true) :
    s.filterFrame cfg f.bytes false = s.passFrame cfg f := by
  have hsome : (if false then none else frameOf f.bytes) = some f := f.frameOf_bytes h
  unfold State.filterFrame
  rw [hsome]

/-- A whole intact frame reaches the stages after framing. -/
theorem exec_frameReceived_frame (f : Frame) (hc : s.port.config = some cfg) (hl : listening s)
    (h : f.inRange = true) :
    exec (.frameReceived (onTheLine f)) s = .next (({ s with line := heardLine s.line } : State).passFrame cfg f) := by
  have hwhole : wholeBytes f.bytes := f.wholeBytes_payload _ _
  have hknown : lengthKnown f.bytes := f.lengthKnown_payload _
  rw [onTheLine, exec_frameReceived_whole _ f.bytes hc hl (map_characterData_map_characterOf _) hwhole,
    Assembly.appendAll_characterOf f.bytes (.inl hknown), State.filterFrame_passes f h]

end

end Sys2Proof.Machine
end

section
/-! SUPPORT. Frames that do not reach the Peer Table, and the characters read back after a collision: O42 and O40. -/

namespace Sys2Proof.Machine

theorem characterError_iff (c : Character) : characterError c = true ↔ c.getLsbD 9 = false := by simp [characterError]

section
variable {s : State} {cfg : Configuration}

/-- A frame under the own number reports DUPLICATE_STATION (R104). -/
theorem State.passFrame_own (f : Frame) (h : s.filter.station = some f.station) :
    s.passFrame cfg f = s.trip cfg .duplicateStation := by
  unfold State.passFrame
  rw [if_pos h]

/-- A frame of another group is counted and goes no further (R105). -/
theorem State.passFrame_otherGroup (f : Frame) (h : s.filter.station ≠ some f.station)
    (hg : s.filter.group ≠ some f.group) :
    s.passFrame cfg f = { s with filter := { s.filter with otherGroup := s.filter.otherGroup + 1 } } := by
  unfold State.passFrame
  rw [if_neg h, if_pos hg]
  rfl

/-- A whole frame that the framing stage discards. -/
theorem exec_frameReceived_discarded (cs : List Character) (bytes : List Byte) (hc : s.port.config = some cfg)
    (hl : listening s) (hbytes : cs.map characterData = bytes) (hw : wholeBytes bytes)
    (h : (∃ c ∈ cs, characterError c = true) ∨ ¬ lengthKnown bytes ∨ frameOf bytes = none) :
    exec (.frameReceived cs) s = .next { discarded s with line := heardLine s.line } := by
  have happended : (Assembly.begun.appendAll cs).bytes = bytes := by rw [Assembly.appendAll_bytes, hbytes]; rfl
  have hdiscards : (Assembly.begun.appendAll cs).malformed = true ∨ frameOf bytes = none := by
    rw [Assembly.appendAll_malformed, happended]
    rcases h with h | h | h
    · exact .inl (.inr (.inl h))
    · exact .inl (.inr (.inr ⟨by decide, hw.1, h⟩))
    · exact .inr h
  rw [exec_frameReceived_whole cs bytes hc hl hbytes hw, State.filterFrame_discards _ _ hdiscards]
  rfl

theorem map_set_characterData (bytes : List Byte) (k : Nat) (b : Byte) (h : bytes[k]? = some b) :
    ((bytes.map characterOf).set k (characterOf b &&& 0x1FF#10)).map characterData = bytes := by
  obtain ⟨hk, rfl⟩ := List.getElem?_eq_some_iff.mp h
  rw [List.map_set, map_characterData_map_characterOf, characterData_spoilt, List.set_getElem_self]

/-- Characters after an intact part under assembly are taken as if the whole frame had come at once. -/
theorem exec_frameReceived_continued (cs : List Character) (part : List Byte) (hc : s.port.config = some cfg)
    (hview : s.line.view = .busy) (hsending : s.line.transmission = none) (hpart : part ≠ [])
    (hunended : unended part) (hintact : part.length < 4 ∨ lengthKnown part)
    (hassembly : s.line.assembly = some ⟨part, false⟩) :
    exec (.frameReceived cs) s =
      exec (.frameReceived (part.map characterOf ++ cs)) { s with line := { s.line with assembly := none } } := by
  have hreceiving : s.line.receiving = true := by simp [ShareLine.receiving, hview, hsending]
  have hreceived : ({ s with line := { s.line with assembly := none } } : State).receiveCharacters cfg
      (part.map characterOf) = s := by
    rw [State.receiveCharacters_unended _ (by simpa using hpart) rfl
      (by rw [map_characterData_map_characterOf]; exact hunended)]
    rw [show ((none : Option Assembly).getD Assembly.begun) = Assembly.begun from rfl,
      Assembly.appendAll_characterOf part hintact.symm, ← hassembly, ← hview]
  have hsplit : ({ s with line := { s.line with assembly := none } } : State).receiveCharacters cfg
      (part.map characterOf ++ cs) = s.receiveCharacters cfg cs := by
    refine List.foldl_append.trans ?_
    exact congrArg (fun x : State => x.receiveCharacters cfg cs) hreceived
  rw [exec_frameReceived_of cs hc hreceiving, exec_frameReceived_of _ (by exact hc) (by exact hreceiving), hsplit]

end

/-- Settles O42: the characters are the frame under assembly until it has ended, and the filter's stages take what it
hands over. -/
theorem frameNotForThisPartStopsAtItsStage : Obligations.FrameNotForThisPartStopsAtItsStage := by
  refine ⟨fun s cfg f hc hl hrange hstation hgroup => ⟨fun k b hk => ?_, fun hi lo hwrong => ?_, fun hown => ?_,
    fun hother hgroups => ?_⟩, fun s b0 b1 b2 b3 rest hc hl hspoilt => ?_, fun s cs bytes hc hl hcs hbytes hun => ?_,
    fun s cs part hc hview hsending hpart hun => ⟨fun hintact hassembly => ?_,
      fun whole hassembly hcs hwhole hlength hends => ?_⟩⟩
  case refine_1 =>
    obtain ⟨hlt, -⟩ := List.getElem?_eq_some_iff.mp hk
    refine exec_frameReceived_discarded _ f.bytes hc hl (map_set_characterData f.bytes k b hk)
      (f.wholeBytes_payload _ _) (.inl ⟨_, List.mem_set (by simpa [onTheLine] using hlt) _, characterError_spoilt b⟩)
  case refine_2 =>
    exact exec_frameReceived_discarded _ _ hc hl (map_characterData_map_characterOf _) (f.wholeBytes_payload hi lo)
      (.inr (.inr (f.frameOf_wrongCheck hi lo hwrong)))
  case refine_3 =>
    have htrips : exec (.frameReceived (onTheLine f)) s =
        .next (({ s with line := heardLine s.line } : State).trip cfg .duplicateStation) := by
      rw [exec_frameReceived_frame f hc hl hrange, State.passFrame_own f (by rw [hown]; exact hstation)]
    rw [htrips]
    refine ⟨fun ht => ?_, fun ho hnone => ?_, fun ht ho hu hnone => ?_⟩
    · rw [State.trip_of_tripped _ (by exact ht)]
    · rw [State.trip_eq _ (by simp [ho]) (by simp [ho]) (by exact hnone), departing_of_off (by exact ho)]
    · rw [State.trip_eq _ (by exact hu) (by exact ht) (by exact hnone), departing_of_ne_off (by exact ho)]
  case refine_4 =>
    have hstation' : s.filter.station ≠ some f.station := by rw [hstation]; simpa using Ne.symm hother
    have hgroup' : s.filter.group ≠ some f.group := by rw [hgroup]; simpa using Ne.symm hgroups
    rw [exec_frameReceived_frame f hc hl hrange, State.passFrame_otherGroup f (by exact hstation') (by exact hgroup')]
  case refine_5 =>
    obtain ⟨cfg, hc⟩ := Option.ne_none_iff_exists'.mp hc
    have hfourth : fieldAt (b0 :: b1 :: b2 :: b3 :: rest) 3 1 = b3.toNat := fieldAt_one _ _
    refine exec_frameReceived_discarded _ _ hc hl (map_characterData_map_characterOf _) ⟨by simp, ?_⟩ (.inr ?_)
    · rw [lengthKnown, hfourth]
      rcases hspoilt with ⟨h0, h8, h16, hlength⟩ | ⟨hknown, hlength, -⟩
      · exact .inr ⟨by omega, by simp [hlength]⟩
      · exact .inl ⟨hknown, by simp [hlength]⟩
    · rw [lengthKnown, hfourth]
      rcases hspoilt with ⟨h0, h8, h16, hlength⟩ | ⟨hknown, hlength, hspoilt⟩
      · exact .inl (by omega)
      · exact .inr (frameOf_spoilt _ _ _ _ _ hlength hspoilt)
  case refine_6 =>
    obtain ⟨cfg, hc⟩ := Option.ne_none_iff_exists'.mp hc
    have happended : (Assembly.begun.appendAll cs).bytes = bytes := by rw [Assembly.appendAll_bytes, hbytes]; rfl
    refine ⟨(Assembly.begun.appendAll cs).malformed, ?_, ?_⟩
    · rw [Assembly.appendAll_malformed, happended]
      simp [characterError_iff, Assembly.begun]
    · rw [exec_frameReceived_of cs hc (receiving_of_listening hl),
        State.receiveCharacters_unended cs hcs (assembly_of_listening hl) (by rw [hbytes] at hun; exact hun), ← happended]
  case refine_7 =>
    obtain ⟨cfg, hc⟩ := Option.ne_none_iff_exists'.mp hc
    exact exec_frameReceived_continued cs part hc hview hsending hpart hun hintact hassembly
  case refine_8 =>
    obtain ⟨cfg, hc⟩ := Option.ne_none_iff_exists'.mp hc
    have hreceiving : s.line.receiving = true := by simp [ShareLine.receiving, hview, hsending]
    have hgiven : s.line.assembly.getD Assembly.begun = ⟨part, true⟩ := by rw [hassembly]; rfl
    have hmalformed : (Assembly.appendAll ⟨part, true⟩ cs).malformed = true := by
      rw [Assembly.appendAll_malformed]
      exact .inl rfl
    rw [exec_frameReceived_of cs hc hreceiving,
      State.receiveCharacters_whole cs hcs hgiven (hwhole ▸ ⟨hlength, hends⟩),
      State.filterFrame_discards _ _ (.inl hmalformed)]
    rfl

end Sys2Proof.Machine
end

section
/-! SUPPORT. A collision: the characters read back, the frame given up and the third collision in a row (R88, R89): O40. -/

namespace Sys2Proof.Machine

/-! ### The readback (R87, R88) -/

/-- A character that was sent reads back as itself. -/
theorem readsDifferent_self (b : Byte) : readsDifferent (characterOf b) (characterOf b) = false := by
  simp [readsDifferent, characterError_characterOf]

theorem collides_of_last (bytes : List Byte) (k : Nat) (sent : Byte) (c : Character) (hk : bytes[k]? = some sent)
    (hc : readsDifferent (characterOf sent) c = true) :
    collides (bytes.map characterOf) ((bytes.map characterOf).take k ++ [c]) = true := by
  induction bytes generalizing k with
  | nil => simp at hk
  | cons b bytes ih =>
    cases k with
    | zero =>
      obtain rfl : b = sent := by simpa using hk
      exact hc
    | succ k =>
      have hrest := ih k (by simpa using hk)
      obtain ⟨x, xs, hxs⟩ : ∃ x xs, (bytes.map characterOf).take k ++ [c] = x :: xs :=
        List.exists_cons_of_ne_nil (by simp)
      rw [List.map_cons, List.take_succ_cons, List.cons_append, hxs, collides, readsDifferent_self, ← hxs]
      · exact hrest
      · simp

theorem lengthKnown_take (f : Frame) (k : Nat) (hk : 4 ≤ k) (hlt : k ≤ f.bytes.length) : lengthKnown (f.bytes.take k) := by
  have hknown : lengthKnown (f.bytes.take k ++ f.bytes.drop k) := by
    rw [List.take_append_drop]
    exact f.lengthKnown_payload _
  exact (lengthKnown_append _ _ (by simp; omega)).mp hknown

theorem fieldAt_take (f : Frame) (k : Nat) (hk : 4 ≤ k) (hlt : k ≤ f.bytes.length) :
    fieldAt (f.bytes.take k) 3 1 = f.body.bytes.length := by
  rw [← fieldAt_append_one _ (f.bytes.drop k) 3 (by simp; omega), List.take_append_drop]
  exact f.fieldAt_length _

theorem fieldAt_fourth (f : Frame) (b : Byte) (h : 3 ≤ f.bytes.length) : fieldAt (f.bytes.take 3 ++ [b]) 3 1 = b.toNat := by
  have hlength : (f.bytes.take 3).length = 3 := by simp [h]
  rw [fieldAt_one, byteAt, List.getD_append_right _ _ _ _ (by omega), hlength]
  rfl

/-- Before the last character the characters read back end no frame. -/
theorem unended_readback (f : Frame) (k : Nat) (b : Byte) (h : k + 1 < f.bytes.length) :
    unended (f.bytes.take k ++ [b]) := by
  have hlength : (f.bytes.take k ++ [b]).length = k + 1 := by simp; omega
  have htotal := f.bytes_length
  unfold unended
  rw [hlength]
  rcases lt_trichotomy k 3 with hk | rfl | hk
  · exact .inl (by omega)
  · by_cases hknown : lengthKnown (f.bytes.take 3 ++ [b])
    · exact .inr (.inl ⟨hknown, by omega⟩)
    · exact .inr (.inr ⟨hknown, by omega⟩)
  · have hprefix : 4 ≤ (f.bytes.take k).length := by simp; omega
    refine .inr (.inl ⟨(lengthKnown_append _ _ hprefix).mpr (lengthKnown_take f k (by omega) (by omega)), ?_⟩)
    rw [fieldAt_append_one _ _ 3 (by omega), fieldAt_take f k (by omega) (by omega)]
    omega

/-- What marks the characters read back as malformed (R78, R80). -/
theorem malformed_readback (f : Frame) (k : Nat) (c : Character) (h : k < f.bytes.length) :
    (Assembly.begun.appendAll ((f.bytes.map characterOf).take k ++ [c])).malformed = true ↔
      c.getLsbD 9 = false ∨ (k = 3 ∧ (c.extractLsb' 1 8).toNat ≠ 0 ∧ (c.extractLsb' 1 8).toNat ≠ 8 ∧
        (c.extractLsb' 1 8).toNat ≠ 16) := by
  have hbytes : (Assembly.begun.appendAll ((f.bytes.map characterOf).take k ++ [c])).bytes =
      f.bytes.take k ++ [characterData c] := by
    rw [Assembly.appendAll_bytes, ← List.map_take, List.map_append, map_characterData_map_characterOf]
    rfl
  have hlength : (f.bytes.take k ++ [characterData c]).length = k + 1 := by simp; omega
  have herror : (∃ x ∈ (f.bytes.map characterOf).take k ++ [c], characterError x = true) ↔ c.getLsbD 9 = false := by
    rw [← characterError_iff]
    refine ⟨?_, fun hc => ⟨c, by simp, hc⟩⟩
    rintro ⟨x, hx, hbad⟩
    rcases List.mem_append.mp hx with hx | hx
    · rw [no_characterError_of_map f.bytes x (List.mem_of_mem_take hx)] at hbad
      exact Bool.noConfusion hbad
    · rwa [List.mem_singleton.mp hx] at hbad
  have hunknown : (4 ≤ k + 1 ∧ ¬ lengthKnown (f.bytes.take k ++ [characterData c])) ↔
      (k = 3 ∧ (c.extractLsb' 1 8).toNat ≠ 0 ∧ (c.extractLsb' 1 8).toNat ≠ 8 ∧ (c.extractLsb' 1 8).toNat ≠ 16) := by
    rcases lt_trichotomy k 3 with hk | rfl | hk
    · omega
    · rw [lengthKnown, fieldAt_fourth f _ (by omega), characterData]
      omega
    · have hknown : lengthKnown (f.bytes.take k ++ [characterData c]) :=
        (lengthKnown_append _ _ (by simp; omega)).mpr (lengthKnown_take f k (by omega) (by omega))
      simp only [hknown, not_true, and_false, false_iff, not_and]
      omega
  rw [Assembly.appendAll_malformed, herror, hbytes, hlength, ← hunknown]
  simp [Assembly.begun]

/-- The characters read back with the last one are the payload with a wrong check after it, or have a bad stop bit. -/
theorem readback_last (f : Frame) (k : Nat) (sent b : Byte) (hk : f.bytes[k]? = some sent)
    (hlast : k + 1 = f.bytes.length) :
    ∃ hi, f.bytes.take k ++ [b] = f.payload ++ [hi, b] ∧ (b ≠ sent → f.payload ++ [hi, b] ≠ f.bytes) := by
  obtain ⟨hi, lo, hcheck⟩ : ∃ hi lo, be16 (crc16 f.payload).toNat = [hi, lo] := ⟨_, _, rfl⟩
  have hbytes : f.bytes = (f.payload ++ [hi]) ++ [lo] := by simp [Frame.bytes, hcheck]
  have hlength : (f.payload ++ [hi]).length = k := by
    have := congrArg List.length hbytes
    simp only [List.length_append, List.length_singleton] at this ⊢
    omega
  have hsent : lo = sent := by
    rw [hbytes, ← hlength, List.getElem?_concat_length] at hk
    exact Option.some.inj hk
  have htake : f.bytes.take k = f.payload ++ [hi] := by rw [hbytes, ← hlength, List.take_left]
  refine ⟨hi, by rw [htake]; simp, fun hb heq => hb ?_⟩
  rw [hbytes] at heq
  simp only [List.append_assoc, List.append_cancel_left_eq] at heq
  simp_all

section
variable {s : State} {cfg : Configuration}

/-- The characters read back begin a frame under assembly, or with the last of them are discarded as a frame (R88,
R89, R103). -/
theorem State.receiveCharacters_readback (f : Frame) (k : Nat) (sent : Byte) (c : Character)
    (hassembly : s.line.assembly = none) (hk : f.bytes[k]? = some sent)
    (hc : c.extractLsb' 1 8 ≠ sent ∨ c.getLsbD 9 = false) :
    s.receiveCharacters cfg ((f.bytes.map characterOf).take k ++ [c]) = readbackTaken s f k c := by
  obtain ⟨hlt, -⟩ := List.getElem?_eq_some_iff.mp hk
  have hgiven : s.line.assembly.getD Assembly.begun = Assembly.begun := by rw [hassembly]; rfl
  have hbytes : ((f.bytes.map characterOf).take k ++ [c]).map characterData = f.bytes.take k ++ [characterData c] := by
    rw [← List.map_take, List.map_append, map_characterData_map_characterOf]
    rfl
  have hmark := malformed_readback f k c hlt
  unfold readbackTaken
  by_cases hlast : k + 1 = f.bytes.length
  · obtain ⟨hi, hwhole, hwrong⟩ := readback_last f k sent (characterData c) hk hlast
    have hdiscards : (Assembly.begun.appendAll ((f.bytes.map characterOf).take k ++ [c])).malformed = true ∨
        frameOf (f.bytes.take k ++ [characterData c]) = none := by
      rcases hc with hc | hc
      · exact .inr (hwhole ▸ f.frameOf_wrongCheck hi _ (hwrong hc))
      · exact .inl (hmark.mpr (.inl hc))
    have hgathered : Assembly.begun.bytes ++ ((f.bytes.map characterOf).take k ++ [c]).map characterData =
        f.bytes.take k ++ [characterData c] := by rw [hbytes]; rfl
    rw [if_pos hlast, State.receiveCharacters_whole _ (by simp) hgiven
      (by rw [hgathered, hwhole]; exact f.wholeBytes_payload _ _), hgathered, State.filterFrame_discards _ _ hdiscards]
    rfl
  · have hrun : unended (Assembly.begun.bytes ++ ((f.bytes.map characterOf).take k ++ [c]).map characterData) := by
      rw [hbytes]
      exact unended_readback f k _ (by omega)
    have hpart : Assembly.begun.appendAll ((f.bytes.map characterOf).take k ++ [c]) =
        { bytes := f.bytes.take k ++ [c.extractLsb' 1 8]
          malformed := decide (c.getLsbD 9 = false ∨ (k = 3 ∧ (c.extractLsb' 1 8).toNat ≠ 0 ∧
            (c.extractLsb' 1 8).toNat ≠ 8 ∧ (c.extractLsb' 1 8).toNat ≠ 16)) } := by
      rw [← Bool.decide_congr hmark, Bool.decide_eq_true]
      exact congrArg (Assembly.mk · _) ((Assembly.appendAll_bytes Assembly.begun _).trans hbytes)
    rw [if_neg hlast, State.receiveCharacters_unended _ (by simp) hgiven hrun, hpart]

/-! ### The frame given up (R88) -/

/-- A state with nothing under assembly, as a collision leaves it before the readback is taken. -/
def unassembled (s : State) : State := { s with line := { s.line with assembly := none } }

theorem readbackTaken_unassembled (f : Frame) (k : Nat) (c : Character) :
    readbackTaken (unassembled s) f k c = readbackTaken s f k c := by
  unfold readbackTaken
  split <;> rfl

theorem alerted_unassembled (alert : AlertBody) :
    alerted (unassembled s) alert = unassembled (alerted s alert) := by
  unfold alerted
  rw [show (unassembled s).line.alertQueue = s.line.alertQueue from rfl]
  split <;> rfl

theorem trippedFrom_unassembled (cause : TripCause) :
    trippedFrom (unassembled s) cause = unassembled (trippedFrom s cause) := by
  have halerted := alerted_unassembled (s := blockedFrom s .tripped) (alertOf s .trip 9 s.allocator.demand)
  exact congrArg (fun x => { counted x [.trip] with fault := ⟨some (pictureOf s cause), 0⟩ }) halerted

theorem exec_collision_of (f : Frame) (k : Nat) (sent : Byte) (c : Character) (hc : s.port.config = some cfg)
    (hsending : s.line.transmission = some f) (hk : f.bytes[k]? = some sent)
    (hdiffers : c.extractLsb' 1 8 ≠ sent ∨ c.getLsbD 9 = false) :
    exec (.collision ((f.bytes.map characterOf).take k ++ [c])) s =
      .next ((if min 3 (s.line.collisions + 1) = 3 then (unassembled (gaveUp s)).trip cfg .duplicateStation
        else unassembled (gaveUp s)).receiveCharacters cfg ((f.bytes.map characterOf).take k ++ [c])) := by
  have hdifferent : readsDifferent (characterOf sent) c = true := by
    simp only [readsDifferent, characterData_characterOf, Bool.or_eq_true, decide_eq_true_eq, characterError_iff]
    exact hdiffers
  have hcollides : collides (sentCharacters f) ((f.bytes.map characterOf).take k ++ [c]) = true :=
    collides_of_last f.bytes k sent c hk hdifferent
  have hcollision (readback : List Character) (h : collides (sentCharacters f) readback = true) :
      exec (.collision readback) s = .next (s.collide cfg readback) := by
    show execCollision readback s = _
    simp [execCollision, State.configured, hc, hsending, h]
  rw [hcollision _ hcollides]
  rfl

end

/-- Settles O40: the frame is given up, the third collision in a row trips, and the readback is received after it. -/
theorem collisionGivesTheFrameUp : Obligations.CollisionGivesTheFrameUp := by
  intro s cfg f k sent c readback hc hsending hk hdiffers hreadback
  have hexec := exec_collision_of f k sent c hc hsending hk hdiffers
  have htaken (x : State) : (unassembled x).receiveCharacters cfg ((f.bytes.map characterOf).take k ++ [c]) =
      readbackTaken x f k c := by
    rw [State.receiveCharacters_readback f k sent c rfl hk hdiffers, readbackTaken_unassembled]
  rw [hreadback]
  refine ⟨fun hfew => ?_, fun hthird => ?_⟩
  · rw [hexec, if_neg (by omega), htaken]
  · have htrips : exec (.collision ((f.bytes.map characterOf).take k ++ [c])) s =
        .next (((unassembled (gaveUp s)).trip cfg .duplicateStation).receiveCharacters cfg
          ((f.bytes.map characterOf).take k ++ [c])) := by
      rw [hexec, if_pos (by omega)]
    rw [htrips]
    refine ⟨fun ht => ?_, fun ho hnone => ?_, fun ht ho hu hnone => ?_⟩
    · rw [State.trip_of_tripped _ (by exact ht), ← htaken]
      rfl
    · have hdeparted : departedOff (unassembled (gaveUp s)) = unassembled (departedOff (gaveUp s)) := rfl
      rw [State.trip_eq _ (by rw [show (unassembled (gaveUp s)).station = s.station from rfl, ho]; decide)
        (by rw [show (unassembled (gaveUp s)).station = s.station from rfl, ho]; decide) (by exact hnone),
        departing_of_off (by exact ho), hdeparted, trippedFrom_unassembled, htaken]
    · rw [State.trip_eq _ (by exact hu) (by exact ht) (by exact hnone), departing_of_ne_off (by exact ho),
        trippedFrom_unassembled, htaken]

end Sys2Proof.Machine
end

section
/-! SUPPORT. One boundary at its neighbours: what each of the six does, the induction over an order, and the classifier's
own part of a figure set (R56 to R58, R66, R70, R71, R73, R74). -/

namespace Sys2Proof.Machine

/-! ### The order of the neighbours (assumption 4) -/

theorem wholeOrder_deliveryOrder (order : List Neighbour) : wholeOrder (deliveryOrder order) = true := by
  unfold deliveryOrder
  split
  · assumption
  · decide

theorem deliveryOrder_of_whole {order : List Neighbour} (h : wholeOrder order = true) : deliveryOrder order = order := by
  simp [deliveryOrder, h]

theorem mem_of_wholeOrder {order : List Neighbour} (h : wholeOrder order = true) (n : Neighbour) : n ∈ order := by
  simp only [wholeOrder, Bool.and_eq_true, decide_eq_true_eq] at h
  obtain ⟨hnodup, hlength⟩ := h
  let all : List Neighbour := chapterOrder
  have hsub : order ⊆ all := fun m _ => by cases m <;> decide
  have hperm : order.Perm all := (hnodup.subperm hsub).perm_of_length_le (by rw [hlength]; decide)
  exact hperm.mem_iff.mpr (by cases n <;> decide)

/-- In a whole order the neighbours before `n` are those that act before it. -/
theorem actsBefore_split {done rest : List Neighbour} {n : Neighbour}
    (h : wholeOrder (done ++ n :: rest) = true) (m : Neighbour) : actsBefore (done ++ n :: rest) m n ↔ m ∈ done := by
  have hmem := mem_of_wholeOrder h m
  simp only [wholeOrder, Bool.and_eq_true, decide_eq_true_eq] at h
  obtain ⟨hnodup, -⟩ := h
  have hn : n ∉ done := fun hn => (List.nodup_append.mp hnodup).2.2 n hn n (by simp) rfl
  have hidx : (done ++ n :: rest).idxOf n = done.length := by
    rw [List.idxOf_append_of_notMem hn]
    simp
  unfold actsBefore
  rw [hidx]
  refine ⟨fun hlt => ?_, fun hm => ?_⟩
  · by_contra hm
    rw [List.idxOf_append_of_notMem hm] at hlt
    omega
  · rw [List.idxOf_append_of_mem hm]
    exact List.idxOf_lt_length_of_mem hm

theorem actsBefore_total {order : List Neighbour} (h : wholeOrder order = true) {m n : Neighbour} (hne : m ≠ n) :
    actsBefore order m n ∨ actsBefore order n m := by
  refine Nat.lt_or_gt_of_ne fun heq => hne ?_
  exact (List.idxOf_inj (mem_of_wholeOrder h m)).mp heq

/-- What holds of a boundary before its first neighbour, and is kept by each neighbour in its turn, holds behind the last. -/
theorem State.deliver_induction (s : State) (cfg : Configuration) (r : FigureReport) (order : List Neighbour)
    (P : List Neighbour → Delivery → Prop) (hstart : P [] ⟨s, none, .awaited⟩)
    (hpass : ∀ done n d, n ∉ done → (∀ m, actsBefore (deliveryOrder order) m n ↔ m ∈ done) → P done d →
      P (done ++ [n]) (d.pass cfg r n)) :
    ∃ done d, (∀ n, n ∈ done) ∧ d.state = s.deliver cfg r order ∧ P done d := by
  have hwhole := wholeOrder_deliveryOrder order
  have hrun : ∀ rest done d, deliveryOrder order = done ++ rest → P done d →
      P (deliveryOrder order) (rest.foldl (Delivery.pass cfg r) d) := by
    intro rest
    induction rest with
    | nil =>
      intro done d hsplit hd
      rw [hsplit, List.append_nil]
      exact hd
    | cons n rest ih =>
      intro done d hsplit hd
      have hsplitWhole : wholeOrder (done ++ n :: rest) = true := hsplit ▸ hwhole
      have hbefore (m : Neighbour) : actsBefore (deliveryOrder order) m n ↔ m ∈ done := by
        rw [hsplit]
        exact actsBefore_split hsplitWhole m
      have hn : n ∉ done := fun hn => absurd ((hbefore n).mpr hn) (lt_irrefl _)
      exact ih (done ++ [n]) _ (by rw [hsplit]; simp) (hpass done n d hn hbefore hd)
  exact ⟨_, _, mem_of_wholeOrder hwhole, rfl, hrun _ [] _ rfl hstart⟩

/-! ### The six neighbours -/

/-- What the four neighbours that act on the station do to the part (R10, R23, R57, R58, R62); the regulator and the
generator are not among them. -/
def State.stationAct (s : State) (cfg : Configuration) (r : FigureReport) : Neighbour → State
  | .classifier => s.classifyFigure cfg s.sampler.figures.voltage r.setpointBefore
  | .overcurrent => if r.overcurrent then s.trip cfg .dcOvercurrent else s
  | .overTemperature => if r.overTemperature then s.trip cfg .overTemperature else s
  | .controller => s.boundaryTests cfg
  | .regulator | .generator => s

section
variable {cfg : Configuration} {r : FigureReport} {d : Delivery}

theorem Delivery.pass_station {n : Neighbour} (hr : n ≠ .regulator) (hg : n ≠ .generator) :
    d.pass cfg r n = ({ d with state := d.state.stationAct cfg r n } : Delivery).noteRelease d.state.station.state := by
  cases n
  case regulator => exact absurd rfl hr
  case generator => exact absurd rfl hg
  all_goals rfl

theorem Delivery.noteRelease_of_kept {before : StationState}
    (h : d.state.station.state = .starting ∨ d.state.station.state = .restart → d.state.station.state = before) :
    d.noteRelease before = d := by
  rcases d.noteRelease_cases before with heq | ⟨-, hne, hreleased, -⟩
  · exact heq
  · exact absurd (h hreleased) hne

theorem Delivery.noteRelease_self : d.noteRelease d.state.station.state = d :=
  Delivery.noteRelease_of_kept fun _ => rfl

/-- A station that does not release its gates leaves the generator's stage alone (R159, R167). -/
theorem Delivery.pass_station_of_kept {n : Neighbour} (hr : n ≠ .regulator) (hg : n ≠ .generator)
    (h : (d.state.stationAct cfg r n).station.state = .starting ∨ (d.state.stationAct cfg r n).station.state = .restart →
      (d.state.stationAct cfg r n).station.state = d.state.station.state) :
    d.pass cfg r n = { d with state := d.state.stationAct cfg r n } := by
  rw [Delivery.pass_station hr hg, Delivery.noteRelease_of_kept h]

theorem Delivery.regulate_station : (d.regulate cfg).state.station = d.state.station := by
  unfold Delivery.regulate
  dsimp only
  split
  · split <;> rfl
  · rfl

theorem Delivery.pass_regulator (b : Boundary) (hb : r.boundary = some b) :
    d.pass cfg r .regulator = d.regulate cfg := by
  have hact : d.act cfg r .regulator = d.regulate cfg := by
    unfold Delivery.act
    rw [hb]
  unfold Delivery.pass
  rw [hact, Delivery.noteRelease_of_kept]
  rw [Delivery.regulate_station]
  exact fun _ => rfl

theorem Delivery.pass_generator (b : Boundary) (hb : r.boundary = some b) :
    d.pass cfg r .generator = d.generate cfg b := by
  have hact : d.act cfg r .generator = d.generate cfg b := by
    unfold Delivery.act
    rw [hb]
  unfold Delivery.pass
  rw [hact, Delivery.noteRelease_of_kept]
  exact fun _ => rfl

/-- A free-running boundary reaches neither the regulator nor the generator (R154, R167). -/
theorem Delivery.pass_free {n : Neighbour} (hb : r.boundary = none) (hn : n = .regulator ∨ n = .generator) :
    d.pass cfg r n = d := by
  have hact : d.act cfg r n = d := by
    rcases hn with rfl | rfl <;> unfold Delivery.act <;> rw [hb]
  unfold Delivery.pass
  rw [hact, Delivery.noteRelease_self]

/-- In a state that does not fire the regulator takes no update (R154). -/
theorem Delivery.regulate_of_idle (h : d.state.station.state.firing = false) : d.regulate cfg = d := by
  simp [Delivery.regulate, h]

end

/-! ### The classifier's own part of a figure set -/

/-- The disturbed state that a figure set enters, if any (R66, R71, R74). -/
def figureEntered (c : Classifier) (cfg : Configuration) (v : Nat) : Option ClassifierState :=
  if c.state = .normal ∨ c.state = .recovering then
    if v < cfg.voltSag then
      some (if (cfg.envelope.head?.map EnvelopePoint.figure).getD 0 ≤ v then .disturbed else .outside)
    else none
  else if c.state = .disturbed ∧ (v < cfg.voltSag ∨ c.active.sag = true) ∧ v < requiredAt cfg (c.elapsed.getD 0) then
    some .outside
  else none

/-- The events that a figure set gives rise to at the classifier (R65, R71). -/
def figureKinds (c : Classifier) (cfg : Configuration) (v : Nat) : List EventKind :=
  (figureEntered c cfg v).elim [] fun e =>
    (if c.state = .disturbed then [] else [.onset]) ++ (if e = .outside then [.block] else [])

/-- The part with a figure set heard by the classifier, before the station reacts. -/
def figureHeard (s : State) (cfg : Configuration) (v : Nat) : State :=
  { counted s (figureKinds s.classifier cfg v) with classifier := (figureTaken s cfg v 0).classifier }

@[simp] theorem alerted_frame (s : State) (alert : AlertBody) :
    (alerted s alert).time = s.time ∧ (alerted s alert).station = s.station ∧
      (alerted s alert).tracker = s.tracker ∧ (alerted s alert).sampler = s.sampler ∧
      (alerted s alert).classifier = s.classifier ∧ (alerted s alert).allocator = s.allocator ∧
      (alerted s alert).regulator = s.regulator ∧ (alerted s alert).gates = s.gates ∧
      (alerted s alert).fault = s.fault := by
  unfold alerted
  split <;> exact ⟨rfl, rfl, rfl, rfl, rfl, rfl, rfl, rfl, rfl⟩

@[simp] theorem reacted_frame (s : State) (cfg : Configuration) (e : ClassifierState) (setpoint : Nat) :
    (reacted s cfg e setpoint).classifier = s.classifier ∧ (reacted s cfg e setpoint).fault = s.fault := by
  unfold reacted
  dsimp only
  split
  case h_1 => split <;> exact ⟨rfl, rfl⟩
  case h_4 => simp [rideFrom]
  case h_5 | h_6 => simp [blockedWith, blockedFrom]
  case h_7 | h_8 => cases s.station.stack.getLast? <;> exact ⟨rfl, rfl⟩
  case h_9 => split <;> simp [rideFrom, counted, standbyFrom, blockedFrom]
  case h_10 => split <;> simp [blockedWith, counted, standbyFrom, blockedFrom]
  case h_11 =>
    unfold arrivedFrom
    split <;> exact ⟨rfl, rfl⟩
  all_goals exact ⟨rfl, rfl⟩

theorem figureHeard_eq_self {s : State} {cfg : Configuration} {v : Nat}
    (h : s.classifier.state = .inactive ∨ (s.classifier.state = .normal ∧ cfg.voltSag ≤ v)) :
    figureHeard s cfg v = s ∧ figureEntered s.classifier cfg v = none := by
  have hentered : figureEntered s.classifier cfg v = none := by
    rcases h with h | ⟨h, hv⟩
    · simp [figureEntered, h]
    · simp [figureEntered, h, hv]
  refine ⟨?_, hentered⟩
  have hclassifier : (figureTaken s cfg v 0).classifier = s.classifier := by
    rcases h with h | ⟨h, hv⟩
    · simp [figureTaken, h]
    · simp [figureTaken, h, Nat.not_lt.mpr hv]
  unfold figureHeard figureKinds
  rw [hclassifier, hentered]
  rfl

/-- A figure set at the classifier is its own part and the station's reaction to the state it enters. -/
theorem figureTaken_eq (s : State) (cfg : Configuration) (v setpoint : Nat) :
    figureTaken s cfg v setpoint =
      (figureEntered s.classifier cfg v).elim (figureHeard s cfg v) fun e =>
        reacted (figureHeard s cfg v) cfg e setpoint := by
  by_cases hsag : v < cfg.voltSag
  · cases hc : s.classifier.state
    case disturbed =>
      by_cases hfails : v < requiredAt cfg (s.classifier.elapsed.getD 0)
      · simp [figureHeard, figureKinds, figureTaken, figureEntered, hc, hsag, hfails, wentOutside, counted]
      · simp [figureHeard, figureKinds, figureTaken, figureEntered, hc, hsag, hfails, counted]
        split <;> rfl
    case inactive => simp [figureHeard, figureKinds, figureTaken, figureEntered, hc, counted]
    case outside =>
      simp [figureHeard, figureKinds, figureTaken, figureEntered, hc, hsag, counted]
      split <;> rfl
    all_goals simp [figureHeard, figureKinds, figureTaken, figureEntered, hc, hsag, onsetOf, counted]
  · cases hc : s.classifier.state
    case disturbed =>
      by_cases hfails : s.classifier.active.sag = true ∧ v < requiredAt cfg (s.classifier.elapsed.getD 0)
      · simp [figureHeard, figureKinds, figureTaken, figureEntered, hc, hsag, hfails, wentOutside, counted]
      · simp [figureHeard, figureKinds, figureTaken, figureEntered, hc, hsag, hfails, counted]
        split <;> rfl
    case outside =>
      simp [figureHeard, figureKinds, figureTaken, figureEntered, hc, hsag, counted]
      split <;> rfl
    case recovering =>
      simp [figureHeard, figureKinds, figureTaken, figureEntered, hc, hsag, counted]
      split <;> rfl
    all_goals simp [figureHeard, figureKinds, figureTaken, figureEntered, hc, hsag, counted]

/-! ### The classifier of the model in the same words -/

theorem requiredFigure_eq (cfg : Configuration) (ms : Nat) : requiredFigure cfg ms = requiredAt cfg ms := by
  unfold requiredFigure requiredAt
  cases (cfg.envelope.filter fun p => decide (p.time ≤ ms)).getLast? <;> rfl

/-- Only the first point of an envelope in range lies at 0 (R191). -/
theorem requiredFigure_zero (cfg : Configuration) (h : configurationInRange cfg = true) :
    requiredFigure cfg 0 = (cfg.envelope.head?.map EnvelopePoint.figure).getD 0 := by
  have henvelope : envelopeInRange cfg.envelope cfg.voltSag = true := by
    simp only [configurationInRange, Bool.and_eq_true] at h
    tauto
  unfold envelopeInRange at henvelope
  cases hpoints : cfg.envelope with
  | nil => simp [hpoints] at henvelope
  | cons first rest =>
    simp only [hpoints, List.head?_cons, Bool.and_eq_true, decide_eq_true_eq, List.pairwise_cons] at henvelope
    obtain ⟨⟨⟨⟨hlater, -⟩, hzero⟩, -⟩, -⟩ := henvelope
    have hrest : rest.filter (fun p => decide (p.time ≤ 0)) = [] := by
      refine List.filter_eq_nil_iff.mpr fun p hp => ?_
      have := (hlater p hp).1
      simp
      omega
    rw [requiredFigure_eq, requiredAt, hpoints, List.filter_cons_of_pos (by simp [hzero]), hrest]
    rfl

theorem inBand_eq (cfg : Configuration) (f : Nat) : inBand cfg f = figureInBand cfg f := by
  unfold inBand figureInBand nominalFigure
  rw [← Bool.decide_and]
  refine decide_eq_decide.mpr ?_
  omega

theorem latestInBand_eq (s : State) (cfg : Configuration) :
    s.latestInBand cfg = s.classifier.latestFigure.any (figureInBand cfg) := by
  unfold State.latestInBand
  cases s.classifier.latestFigure with
  | none => rfl
  | some f => exact inBand_eq cfg f

section
variable {s : State} {cfg : Configuration} (v setpoint : Nat)

theorem State.countOnset_sag (entered : ClassifierState) :
    s.countOnset .sag entered = counted s (.onset :: if entered = .outside then [.block] else []) := by
  unfold State.countOnset
  cases entered <;> rfl

/-- Outside RECOVERING the station does not react to RECOVERING. -/
theorem State.reactTo_recovering (onset : Bool) (h : s.classifier.state = .recovering) :
    s.reactTo cfg ⟨.recovering, onset⟩ setpoint = s := by
  unfold State.reactTo
  cases hs : s.station.state
  case syncing => simp [State.testStart, State.startCondition, h]
  all_goals rfl

/-- The active set with SAG joined below V_sag (R70). -/
def sagJoined (active : ActiveSet) (cfg : Configuration) (v : Nat) : ActiveSet :=
  if v < cfg.voltSag then { active with sag := true } else active

theorem State.joinSag_eq :
    s.joinSag cfg v = { s with classifier := { s.classifier with active := sagJoined s.classifier.active cfg v } } := by
  unfold State.joinSag sagJoined
  split <;> rfl

theorem sagJoined_sag (active : ActiveSet) :
    (sagJoined active cfg v).sag = true ↔ v < cfg.voltSag ∨ active.sag = true := by
  unfold sagJoined
  split <;> simp [*]

/-- The classifier after the recovery test (R73). -/
theorem State.testRecovery_eq :
    s.testRecovery cfg v setpoint =
      if cfg.voltRecovered ≤ v ∧ s.tracker.state = .locked ∧ s.classifier.latestFigure.any (figureInBand cfg) = true then
        { s with classifier :=
          { s.classifier with state := .recovering, confirm := some s.time, frequencyTimer := none } }
      else s := by
  unfold State.testRecovery State.recovers State.report
  rw [latestInBand_eq, State.reactTo_recovering _ _ rfl]
  by_cases h : cfg.voltRecovered ≤ v ∧ s.tracker.state = .locked ∧
      s.classifier.latestFigure.any (figureInBand cfg) = true
  · rw [if_pos h, if_pos (by simp [h])]
    rfl
  · rw [if_neg h, if_neg (by simpa [and_assoc] using h)]

/-- A disturbance in progress that the envelope does not end: SAG joins and the recovery test is made (R70, R73). -/
theorem figureTaken_of_disturbance (hc : s.classifier.state = .disturbed ∨ s.classifier.state = .outside)
    (hentered : figureEntered s.classifier cfg v = none) :
    figureTaken s cfg v 0 = (s.joinSag cfg v).testRecovery cfg v setpoint := by
  have hfails : ¬ (s.classifier.state = .disturbed ∧ (sagJoined s.classifier.active cfg v).sag = true ∧
      v < requiredAt cfg (s.classifier.elapsed.getD 0)) := by
    rw [sagJoined_sag]
    intro hfails
    simp [figureEntered, hfails] at hentered
  have hnot : s.classifier.state ≠ .inactive ∧ s.classifier.state ≠ .normal ∧ s.classifier.state ≠ .recovering := by
    rcases hc with hc | hc <;> simp [hc]
  obtain ⟨hinactive, hnormal, hrecovering⟩ := hnot
  unfold sagJoined at hfails
  rw [State.testRecovery_eq, State.joinSag_eq]
  simp only [figureTaken, sagJoined, if_neg hinactive, if_neg hnormal, if_neg hrecovering, if_neg hfails]

/-- A figure set that enters no state leaves the part as the statements say. -/
theorem figureHeard_of_none (hentered : figureEntered s.classifier cfg v = none) :
    figureHeard s cfg v = figureTaken s cfg v 0 := by
  rw [figureTaken_eq, hentered]
  rfl

/-- The classifier's step at a figure set: its own part, and the reaction to the state it enters. -/
theorem State.classifyFigure_eq (h : configurationInRange cfg = true) :
    s.classifyFigure cfg v setpoint =
      (figureEntered s.classifier cfg v).elim (figureHeard s cfg v) fun e =>
        (figureHeard s cfg v).reactTo cfg ⟨e, true⟩ setpoint := by
  have honset (hc : s.classifier.state = .normal ∨ s.classifier.state = .recovering) (hsag : v < cfg.voltSag) :
      s.sagOnset cfg v setpoint = (figureEntered s.classifier cfg v).elim (figureHeard s cfg v) fun e =>
        (figureHeard s cfg v).reactTo cfg ⟨e, true⟩ setpoint := by
    have hentered : figureEntered s.classifier cfg v =
        some (if requiredFigure cfg 0 ≤ v then .disturbed else .outside) := by
      rw [requiredFigure_zero cfg h]
      simp [figureEntered, hc, hsag]
    generalize he : (if requiredFigure cfg 0 ≤ v then ClassifierState.disturbed else ClassifierState.outside) = e at hentered
    have hheard : figureHeard s cfg v = (s.countOnset .sag e).setClassifier (s.classifier.openDisturbance .sag e s.time) := by
      rw [requiredFigure_zero cfg h] at he
      have hne : s.classifier.state ≠ .disturbed := by rcases hc with hc | hc <;> simp [hc]
      have hclassifier : (figureTaken s cfg v 0).classifier = s.classifier.openDisturbance .sag e s.time := by
        rcases hc with hc | hc <;>
          simp [figureTaken, hc, hsag, he, onsetOf, Classifier.openDisturbance, ActiveSet.only, counted]
      unfold figureHeard figureKinds
      rw [hclassifier, hentered, State.countOnset_sag, Option.elim_some, if_neg hne]
      rfl
    unfold State.sagOnset State.openDisturbance State.report
    rw [he, hentered, hheard]
    rfl
  have hnone (hentered : figureEntered s.classifier cfg v = none)
      (htaken : s.classifyFigure cfg v setpoint = figureTaken s cfg v 0) :
      s.classifyFigure cfg v setpoint = (figureEntered s.classifier cfg v).elim (figureHeard s cfg v) fun e =>
        (figureHeard s cfg v).reactTo cfg ⟨e, true⟩ setpoint := by
    rw [htaken, hentered, ← figureHeard_of_none v hentered]
    rfl
  cases hc : s.classifier.state
  case inactive =>
    refine hnone (by simp [figureEntered, hc]) ?_
    simp [State.classifyFigure, figureTaken, hc]
  case normal =>
    by_cases hsag : v < cfg.voltSag
    · rw [← honset (.inl hc) hsag]
      simp [State.classifyFigure, hc, hsag]
    · refine hnone (by simp [figureEntered, hc, hsag]) ?_
      simp [State.classifyFigure, figureTaken, hc, hsag]
  case recovering =>
    by_cases hsag : v < cfg.voltSag
    · rw [← honset (.inr hc) hsag]
      simp [State.classifyFigure, hc, hsag]
    · refine hnone (by simp [figureEntered, hc, hsag]) ?_
      simp [State.classifyFigure, figureTaken, State.restartConfirm, State.setClassifier, hc, hsag]
  case outside =>
    have hentered : figureEntered s.classifier cfg v = none := by simp [figureEntered, hc]
    refine hnone hentered ?_
    rw [figureTaken_of_disturbance v setpoint (.inr hc) hentered]
    simp [State.classifyFigure, hc]
  case disturbed =>
    have hfails : (s.joinSag cfg v).envelopeFails cfg v = true ↔
        (v < cfg.voltSag ∨ s.classifier.active.sag = true) ∧ v < requiredAt cfg (s.classifier.elapsed.getD 0) := by
      rw [State.joinSag_eq, ← sagJoined_sag v, State.envelopeFails, requiredFigure_eq]
      simp
    by_cases hf : (s.joinSag cfg v).envelopeFails cfg v = true
    · have hentered : figureEntered s.classifier cfg v = some .outside := by simp [figureEntered, hc, hfails.mp hf]
      have hjoined := (sagJoined_sag (cfg := cfg) v s.classifier.active).mpr (hfails.mp hf).1
      unfold sagJoined at hjoined
      have hheard : figureHeard s cfg v = (s.count .block).setClassifier
          { s.classifier with
            active := sagJoined s.classifier.active cfg v, state := .outside, frequencyTimer := none } := by
        have hclassifier : (figureTaken s cfg v 0).classifier = { s.classifier with
            active := sagJoined s.classifier.active cfg v, state := .outside, frequencyTimer := none } := by
          simp [figureTaken, hc, hjoined, (hfails.mp hf).2, wentOutside, sagJoined]
        unfold figureHeard figureKinds
        rw [hclassifier, hentered, Option.elim_some, if_pos hc, if_pos rfl]
        rfl
      have hout : s.classifyFigure cfg v setpoint = (s.joinSag cfg v).goOutside cfg setpoint := by
        simp [State.classifyFigure, hc, hf]
      rw [hentered, hheard, hout, State.joinSag_eq]
      rfl
    · have hentered : figureEntered s.classifier cfg v = none := by
        have := mt hfails.mpr hf
        simp only [figureEntered, hc]
        simpa using this
      refine hnone hentered ?_
      rw [figureTaken_of_disturbance v setpoint (.inl hc) hentered]
      simp [State.classifyFigure, hc, hf]

theorem figureHeard_state_of_some {e : ClassifierState} (hentered : figureEntered s.classifier cfg v = some e) :
    (figureHeard s cfg v).classifier.state = e := by
  have htaken : (figureHeard s cfg v).classifier = (figureTaken s cfg v 0).classifier := rfl
  rw [htaken]
  by_cases hc : s.classifier.state = .normal ∨ s.classifier.state = .recovering
  · by_cases hsag : v < cfg.voltSag
    · simp only [figureEntered, if_pos hc, if_pos hsag, Option.some.injEq] at hentered
      rcases hc with hc | hc <;> simp [figureTaken, hc, hsag, onsetOf, hentered]
    · simp [figureEntered, hc, hsag] at hentered
  · by_cases hfails : s.classifier.state = .disturbed ∧ (v < cfg.voltSag ∨ s.classifier.active.sag = true) ∧
        v < requiredAt cfg (s.classifier.elapsed.getD 0)
    · simp only [figureEntered, if_neg hc, if_pos hfails, Option.some.injEq] at hentered
      have hjoined := (sagJoined_sag (cfg := cfg) v s.classifier.active).mpr hfails.2.1
      unfold sagJoined at hjoined
      simp [figureTaken, hfails.1, hjoined, hfails.2.2, wentOutside, hentered]
    · simp [figureEntered, hc, hfails] at hentered

/-- A figure set never enters NORMAL (R63). -/
theorem figureEntered_ne_normal {c : Classifier} {e : ClassifierState} (h : figureEntered c cfg v = some e) :
    e = .disturbed ∨ e = .outside := by
  unfold figureEntered at h
  split at h
  · split at h
    · split at h <;> simp_all
    · contradiction
  · split at h
    · simp_all
    · contradiction

/-- The classifier is NORMAL behind a figure set only if that set has changed nothing. -/
theorem figureHeard_normal (h : (figureHeard s cfg v).classifier.state = .normal) :
    s.classifier.state = .normal ∧ figureEntered s.classifier cfg v = none ∧ figureHeard s cfg v = s := by
  cases hentered : figureEntered s.classifier cfg v with
  | some e =>
    rw [figureHeard_state_of_some v hentered] at h
    rcases figureEntered_ne_normal v hentered with he | he <;> simp [he] at h
  | none =>
    have hnormal : s.classifier.state = .normal := by
      rw [figureHeard_of_none v hentered] at h
      by_contra hc
      revert h
      unfold figureTaken
      dsimp only
      split_ifs <;> simp_all [onsetOf, wentOutside]
    refine ⟨hnormal, rfl, (figureHeard_eq_self (.inr ⟨hnormal, ?_⟩)).1⟩
    by_contra hsag
    simp [figureEntered, hnormal, Nat.not_le.mp hsag] at hentered

/-- The classifier's step is the statements' figure set, with a stack that fits. -/
theorem State.classifyFigure_eq_taken (h : configurationInRange cfg = true) (hfits : s.station.StackFits) :
    s.classifyFigure cfg v setpoint = figureTaken s cfg v setpoint := by
  rw [State.classifyFigure_eq v setpoint h, figureTaken_eq]
  cases hentered : figureEntered s.classifier cfg v with
  | none => rfl
  | some e =>
    exact State.reactTo_eq (s := figureHeard s cfg v) ⟨e, true⟩ setpoint h hfits (figureHeard_state_of_some v hentered)

end

end Sys2Proof.Machine
end

section
/-! SUPPORT. The neighbours that act on the station, as the regulator and the generator see them: a station that fires stays
firing or is blocked, and one that is idle stays idle (R4, R12, R14 to R16, R18, R19, R23, R26, R159, R165). -/

namespace Sys2Proof.Machine

/-- A blocked station: it does not fire, and no start is due in SYNCING (R10). -/
structure Idle (x : State) : Prop where
  firing : x.station.state.firing = false
  noStart : x.station.state = .syncing → x.tracker.state = .locked → x.classifier.state ≠ .normal

/-- The regulator of an entry into OFF or STARTING (R153). -/
def restRegulator (cfg : Configuration) : Regulator := ⟨0, cfg.alphaMax, .high⟩

/-- A step that leaves the station firing touches neither the regulator nor the generator nor SP. -/
structure StaysFiring (x y : State) : Prop where
  firing : y.station.state.firing = true
  regulator : y.regulator = x.regulator
  gates : y.gates = x.gates
  setpoint : y.allocator.setpoint = x.allocator.setpoint
  destination : y.station.destination = some .off → x.station.destination = some .off
  state : y.station.state = x.station.state ∨ y.station.state = .ride

/-- A step that takes the station out of the firing states blocks the gates (R165), and resets the regulator in OFF alone
(R153). -/
structure StopsFiring (cfg : Configuration) (x y : State) : Prop where
  idle : Idle y
  gates : y.gates = blockedGates x.gates
  regulator : y.regulator = x.regulator ∨ (x.station.destination = some .off ∧ y.regulator = restRegulator cfg)

/-- A step of an idle station keeps it idle and the regulator as it is. -/
structure StaysIdle (x y : State) : Prop where
  idle : Idle y
  regulator : y.regulator = x.regulator
  gates : y.gates = x.gates ∨ y.gates = blockedGates x.gates

section
variable {x : State} {cfg : Configuration}

theorem Gates.block_eq (g : Gates) : g.block = blockedGates g := rfl

theorem Idle.of_other {dest : StationState} (hs : x.station.state = dest) (hf : dest.firing = false)
    (hd : dest ≠ .syncing) : Idle x :=
  ⟨by rw [hs, hf], fun hsync => absurd (hs.symm.trans hsync) hd⟩

/-! ### The controller's operations -/

theorem State.rideOut_firing (setpoint : Nat) :
    StaysFiring x (x.rideOut cfg setpoint) where
  firing := by simp [State.rideOut, StationState.firing]
  regulator := by simp [State.rideOut, Regulator.enter]
  gates := by simp [State.rideOut, Gates.enter]
  setpoint := by simp [State.rideOut, Allocator.enter, entrySetpoint]
  destination := by simp [State.rideOut, Station.enter]
  state := .inr (by simp [State.rideOut])

theorem State.enterBlocked_stops : StopsFiring cfg x (x.enterBlocked cfg) where
  idle := Idle.of_other (dest := .blocked) (by simp [State.enterBlocked]) rfl (by decide)
  gates := by simp [State.enterBlocked, Gates.enter, Gates.block_eq]
  regulator := .inl (by simp [State.enterBlocked, Regulator.enter])

theorem State.enterStandby_stops (origin : StandbyOrigin) : StopsFiring cfg x (x.enterStandby cfg origin) where
  idle := Idle.of_other (dest := .standby) rfl rfl (by decide)
  gates := rfl
  regulator := .inl rfl

theorem State.escalate_stops : StopsFiring cfg x (x.escalate cfg) where
  idle := Idle.of_other (dest := .standby) (by simp [State.escalate, State.enterStandby, State.emptyStack]) rfl (by decide)
  gates := by simp [State.escalate, State.enterStandby, Gates.enter, Gates.block_eq]
  regulator := .inl (by simp [State.escalate, State.enterStandby, Regulator.enter])

/-- A trip outside UNCONFIGURED and TRIPPED. -/
theorem State.trip_stops (cause : TripCause) (hu : x.station.state ≠ .unconfigured) (ht : x.station.state ≠ .tripped) :
    StopsFiring cfg x (x.trip cfg cause) := by
  have htrip : x.trip cfg cause = ((((x.setFault (x.fault.take (x.tripPicture cause))).enter cfg .tripped).emptyStack).queueAlert .trip).count .trip := by
    unfold State.trip
    split <;> simp_all
  refine ⟨Idle.of_other (x.trip_station cfg cause hu) rfl (by decide), ?_, .inl ?_⟩
  · rw [htrip]
    simp [Gates.enter, Gates.block_eq]
  · rw [htrip]
    simp [Regulator.enter]

theorem State.enterDestination_kept (h : configurationInRange cfg = true) (hs : x.station.state.firing = true) :
    StaysFiring x (x.enterDestination cfg) ∨ StopsFiring cfg x (x.enterDestination cfg) := by
  unfold State.enterDestination
  cases hd : x.station.destination with
  | none => exact .inl ⟨hs, rfl, rfl, rfl, id, .inl rfl⟩
  | some destination =>
    cases destination with
    | off =>
      refine .inr ⟨Idle.of_other (dest := .off) rfl rfl (by decide), rfl, .inr ⟨hd, ?_⟩⟩
      exact Regulator.enter_off_eq x.regulator x.station.stack h
    | standby => exact .inr (State.enterStandby_stops _)

/-! ### Reactions of a station that fires, and of one that is idle -/

theorem StaysFiring.rfl (hs : x.station.state.firing = true) : StaysFiring x x :=
  ⟨hs, Eq.refl _, Eq.refl _, Eq.refl _, id, .inl (Eq.refl _)⟩

theorem StaysIdle.rfl (hs : Idle x) : StaysIdle x x := ⟨hs, Eq.refl _, .inl (Eq.refl _)⟩

theorem StopsFiring.ofSyncing (hc : x.classifier.state ≠ .normal) : StopsFiring cfg x (x.enter cfg .syncing) :=
  ⟨⟨Eq.refl _, fun _ _ => hc⟩, Eq.refl _, .inl (Eq.refl _)⟩

theorem State.reactTo_of_firing (h : configurationInRange cfg = true) (hs : x.station.state.firing = true)
    (e : ClassifierState) (setpoint : Nat) (he : e = .disturbed ∨ e = .outside) (hc : x.classifier.state = e) :
    StaysFiring x (x.reactTo cfg ⟨e, true⟩ setpoint) ∨ StopsFiring cfg x (x.reactTo cfg ⟨e, true⟩ setpoint) := by
  have hpushed : StaysFiring x (x.rideOut cfg setpoint) := x.rideOut_firing setpoint
  have hpushedBlocked : StopsFiring cfg x ((x.pushContext setpoint).enterBlocked cfg) :=
    let hblocked := State.enterBlocked_stops (x := x.pushContext setpoint) (cfg := cfg)
    ⟨hblocked.idle, hblocked.gates, hblocked.regulator⟩
  have hnormal : x.classifier.state ≠ .normal := by rcases he with rfl | rfl <;> simp [hc]
  unfold State.reactTo
  cases hstate : x.station.state <;> rw [hstate] at hs
  case starting => rcases he with rfl | rfl <;> exact .inr (StopsFiring.ofSyncing hnormal)
  case run =>
    rcases he with rfl | rfl
    · exact .inl hpushed
    · exact .inr hpushedBlocked
  case ride =>
    rcases he with rfl | rfl
    · exact .inl (StaysFiring.rfl (by rw [hstate]; exact hs))
    · exact .inr State.enterBlocked_stops
  case restart =>
    rcases he with rfl | rfl <;> dsimp only <;> split
    · exact .inl hpushed
    · exact .inr State.escalate_stops
    · exact .inr hpushedBlocked
    · exact .inr State.escalate_stops
  case stopping =>
    rcases he with rfl | rfl
    · exact .inl (StaysFiring.rfl (by rw [hstate]; exact hs))
    · exact State.enterDestination_kept h (by rw [hstate]; exact hs)
  all_goals exact Bool.noConfusion hs

theorem State.reactTo_of_idle (hs : x.station.state.firing = false) (e : ClassifierState) (setpoint : Nat)
    (he : e = .disturbed ∨ e = .outside) (hc : x.classifier.state = e) :
    x.reactTo cfg ⟨e, true⟩ setpoint = x := by
  unfold State.reactTo
  cases hstate : x.station.state <;> rw [hstate] at hs
  case syncing => rcases he with rfl | rfl <;> simp [State.testStart, State.startCondition, hc]
  case starting | run | ride | restart | stopping => exact Bool.noConfusion hs
  all_goals rcases he with rfl | rfl <;> rfl

theorem Idle.figureHeard (hs : Idle x) (v : Nat) : Idle (figureHeard x cfg v) :=
  ⟨hs.firing, fun hsync hlocked hnormal => hs.noStart hsync hlocked (figureHeard_normal v hnormal).1⟩

variable {r : FigureReport}

/-- What an action on a firing station does at the regulator and the generator. -/
theorem State.stationAct_of_firing (h : configurationInRange cfg = true) (hs : x.station.state.firing = true)
    (n : Neighbour) : StaysFiring x (x.stationAct cfg r n) ∨ StopsFiring cfg x (x.stationAct cfg r n) := by
  have htrip (cause : TripCause) : StopsFiring cfg x (x.trip cfg cause) :=
    x.trip_stops cause (by rintro hu; rw [hu] at hs; exact Bool.noConfusion hs)
      (by rintro ht; rw [ht] at hs; exact Bool.noConfusion hs)
  have hkept : StaysFiring x x := StaysFiring.rfl hs
  cases n
  case regulator | generator => exact .inl hkept
  case overcurrent =>
    simp only [State.stationAct]
    split
    · exact .inr (htrip _)
    · exact .inl hkept
  case overTemperature =>
    simp only [State.stationAct]
    split
    · exact .inr (htrip _)
    · exact .inl hkept
  case controller =>
    unfold State.stationAct State.boundaryTests
    cases hstate : x.station.state
    case stopping =>
      dsimp only
      unfold State.testStopping
      split
      · exact State.enterDestination_kept h hs
      · exact .inl hkept
    case syncing =>
      rw [hstate] at hs
      exact Bool.noConfusion hs
    all_goals exact .inl hkept
  case classifier =>
    unfold State.stationAct
    dsimp only
    rw [State.classifyFigure_eq _ _ h]
    cases hentered : figureEntered x.classifier cfg x.sampler.figures.voltage with
    | none => exact .inl ⟨hs, Eq.refl _, Eq.refl _, Eq.refl _, id, .inl (Eq.refl _)⟩
    | some e =>
      rcases State.reactTo_of_firing (x := figureHeard x cfg x.sampler.figures.voltage) h hs e r.setpointBefore
        (figureEntered_ne_normal _ hentered) (figureHeard_state_of_some _ hentered) with hstays | hstops
      · exact .inl ⟨hstays.firing, hstays.regulator, hstays.gates, hstays.setpoint, hstays.destination, hstays.state⟩
      · exact .inr ⟨hstops.idle, hstops.gates, hstops.regulator⟩

/-- What an action on an idle station does at the regulator and the generator. -/
theorem State.stationAct_of_idle (h : configurationInRange cfg = true) (hs : Idle x) (n : Neighbour) :
    StaysIdle x (x.stationAct cfg r n) := by
  have hkept : StaysIdle x x := StaysIdle.rfl hs
  have htrip (cause : TripCause) : StaysIdle x (x.trip cfg cause) := by
    by_cases hu : x.station.state = .unconfigured
    · have heq : x.trip cfg cause = x := by simp [State.trip, hu]
      rw [heq]
      exact hkept
    · by_cases ht : x.station.state = .tripped
      · rw [State.trip_of_tripped cause ht]
        exact ⟨⟨hs.firing, hs.noStart⟩, Eq.refl _, .inl (Eq.refl _)⟩
      · obtain ⟨hidle, hgates, hregulator⟩ := x.trip_stops (cfg := cfg) cause hu ht
        refine ⟨hidle, ?_, .inr hgates⟩
        have hline : (x.trip cfg cause).regulator = x.regulator := by
          unfold State.trip
          split <;> simp [Regulator.enter, State.setFault]
        exact hline
  cases n
  case regulator | generator => exact hkept
  case overcurrent =>
    simp only [State.stationAct]
    split
    · exact htrip _
    · exact hkept
  case overTemperature =>
    simp only [State.stationAct]
    split
    · exact htrip _
    · exact hkept
  case controller =>
    have hquiet : x.boundaryTests cfg = x := by
      unfold State.boundaryTests
      cases hstate : x.station.state
      case stopping =>
        have := hs.firing
        rw [hstate] at this
        exact Bool.noConfusion this
      case syncing =>
        have hstart := hs.noStart hstate
        have hno : x.startCondition = false := by
          simp only [State.startCondition, Bool.and_eq_false_iff, decide_eq_false_iff_not]
          tauto
        simp [State.testStart, hno]
      all_goals rfl
    unfold State.stationAct
    dsimp only
    rw [hquiet]
    exact hkept
  case classifier =>
    unfold State.stationAct
    dsimp only
    have hheard := hs.figureHeard (cfg := cfg) x.sampler.figures.voltage
    have hact : x.classifyFigure cfg x.sampler.figures.voltage r.setpointBefore =
        figureHeard x cfg x.sampler.figures.voltage := by
      rw [State.classifyFigure_eq _ _ h]
      cases hentered : figureEntered x.classifier cfg x.sampler.figures.voltage with
      | none => exact Eq.refl _
      | some e =>
        exact State.reactTo_of_idle hheard.firing e _ (figureEntered_ne_normal _ hentered)
          (figureHeard_state_of_some _ hentered)
    rw [hact]
    exact ⟨hheard, Eq.refl _, .inl (Eq.refl _)⟩

end

end Sys2Proof.Machine
end

section
/-! SUPPORT. The regulator's update and the generator's schedule in the words of the statements (R155, R156, R162, R163). -/

namespace Sys2Proof.Machine

theorem Regulator.update_eq (r : Regulator) (cfg : Configuration) (setpoint current : Nat) :
    r.update cfg setpoint current = updatedRegulator cfg r setpoint current := rfl

/-! ### The list of firings -/

theorem insertFiring_placedIn (new : PendingFiring) (l : List PendingFiring) : placedIn new l (insertFiring new l) := by
  induction l with
  | nil => exact ⟨[], [], rfl, rfl, by simp, by simp⟩
  | cons g rest ih =>
    unfold insertFiring
    by_cases hlater : atOrAfter new.fireTime g.fireTime = true
    · obtain ⟨before, after, hlist, hplaced, hbefore, hafter⟩ := ih
      rw [if_pos hlater, hplaced]
      refine ⟨g :: before, after, by rw [hlist]; rfl, rfl, ?_, hafter⟩
      simp only [atOrAfter, decide_eq_true_eq] at hlater
      simpa using ⟨hlater, hbefore⟩
    · rw [if_neg hlater]
      simp only [atOrAfter, decide_eq_true_eq, not_lt] at hlater
      exact ⟨[], g :: rest, rfl, rfl, by simp, by simpa using hlater⟩

/-- An entry that every other entry is scheduled after is the one scheduled earliest. -/
theorem earliestScheduled_of_oldest (before after : List PendingFiring) (old : PendingFiring)
    (h : ∀ f ∈ before ++ after,
      f.scheduledAt ≠ old.scheduledAt ∧ (f.scheduledAt - old.scheduledAt).toNat < 2 ^ 31) :
    earliestScheduled (before ++ old :: after) = some old := by
  induction before with
  | nil =>
    rw [List.nil_append]
    unfold earliestScheduled
    cases hrest : earliestScheduled after with
    | none => rfl
    | some g =>
      have hg : g ∈ after := by
        have hne : after ≠ [] := by rintro rfl; simp [earliestScheduled] at hrest
        obtain ⟨f, hf, heq⟩ := earliestScheduled_mem after hne
        rw [hrest] at heq
        cases heq
        exact hf
      have hlater := (h g (by simpa using hg)).2
      simp only [atOrAfter, decide_eq_true hlater, if_true]
  | cons f rest ih =>
    have hrest := ih fun g hg => h g (by simpa using Or.inr (by simpa using hg))
    obtain ⟨hne, hlater⟩ := h f (by simp)
    have hearlier : ¬ (old.scheduledAt - f.scheduledAt).toNat < 2 ^ 31 := by
      bv_omega
    rw [List.cons_append]
    unfold earliestScheduled
    rw [hrest]
    simp only [atOrAfter, decide_eq_true_eq, if_neg hearlier]

/-- The two outputs of a double pulse are extended and the others kept (R163). -/
theorem Gates.doublePulse_outputs (g : Gates) (cfg : Configuration) (at_ : Micros) (n i : Fin 6) :
    (g.doublePulse cfg at_ n).outputs[i] =
      if i = n ∨ (i.val + 1) % 6 = n.val then extendPulse g.outputs[i] (afterMicros at_ cfg.pulseWidth)
      else g.outputs[i] := by
  have hdistinct : n - 1 ≠ n := by
    revert n
    decide
  have hprevious : (i.val + 1) % 6 = n.val ↔ i = n - 1 := by
    revert i n
    decide
  simp only [hprevious, Gates.doublePulse, Fin.getElem_fin, Vector.getElem_set, Fin.val_inj, hdistinct.symm, if_false]
  by_cases hi : i = n - 1
  · subst hi
    simp
  · by_cases hn : i = n
    · subst hn
      simp [hdistinct]
    · simp [hi, hn, Ne.symm hi, Ne.symm hn]

theorem Gates.doublePulse_pulsed (g : Gates) (cfg : Configuration) (at_ : Micros) (n : Fin 6) :
    doublePulsed cfg at_ n g.outputs (g.doublePulse cfg at_ n).outputs := by
  intro i
  rw [g.doublePulse_outputs cfg at_ n i]
  split
  · cases g.outputs[i] <;> simp [extendPulse, laterOf, atOrAfter, afterMicros]
  · rfl

/-- With room in the list nothing is advanced (R162). -/
theorem Gates.advanceOldest_of_room (g : Gates) (cfg : Configuration) (at_ : Micros) (h : g.firings.length < 3) :
    g.advanceOldest cfg at_ = g := by
  simp [Gates.advanceOldest, h]

/-- A full list gives its oldest entry (R162). -/
theorem Gates.advanceOldest_of_oldest (g : Gates) (cfg : Configuration) (at_ : Micros)
    (before after : List PendingFiring) (old : PendingFiring) (hfull : g.firings.length = 3)
    (hlist : g.firings = before ++ old :: after)
    (h : ∀ f ∈ before ++ after,
      f.scheduledAt ≠ old.scheduledAt ∧ (f.scheduledAt - old.scheduledAt).toNat < 2 ^ 31) :
    g.advanceOldest cfg at_ =
      Gates.doublePulse { g with firings := before ++ after } cfg at_ old.thyristor := by
  have hold : earliestScheduled g.firings = some old := by
    rw [hlist]
    exact earliestScheduled_of_oldest before after old h
  have hnot : old ∉ before := fun hmem => (h old (by simp [hmem])).1 rfl
  have herase : g.firings.erase old = before ++ after := by
    rw [hlist, List.erase_append_right _ hnot, List.erase_cons_head]
  unfold Gates.advanceOldest
  rw [if_neg (by omega), hold]
  simp only [herase]

/-- An ENABLED generator schedules with its latched angle (R161, R162). -/
theorem Gates.schedule_of_enabled (g : Gates) (cfg : Configuration) (period angle : Nat) (b : Boundary)
    (hmode : g.mode = .enabled) (hangle : g.latched = some angle) :
    g.schedule cfg period b = { g.advanceOldest cfg b.time with
      firings := insertFiring ⟨Fin.ofNat 6 b.sector, b.time + BitVec.ofNat 32 (angle * period / 3600), b.time⟩
        (g.advanceOldest cfg b.time).firings } := by
  unfold Gates.schedule
  rw [hmode, hangle]
  rfl

/-- The firing of a tracked boundary is scheduled with the latched angle. -/
theorem Gates.schedule_scheduled (g : Gates) (cfg : Configuration) (period angle : Nat) (b : Boundary)
    (hmode : g.mode = .enabled) (hangle : g.latched = some angle) :
    firingScheduled cfg b period angle g (g.schedule cfg period b) := by
  rintro new rfl
  rw [g.schedule_of_enabled cfg period angle b hmode hangle]
  refine ⟨fun hroom => ?_, fun before after old hfull hlist hoth => ?_⟩
  · rw [g.advanceOldest_of_room cfg b.time hroom]
    exact ⟨insertFiring_placedIn _ _, rfl⟩
  · rw [g.advanceOldest_of_oldest cfg b.time before after old hfull hlist hoth]
    exact ⟨insertFiring_placedIn _ _, Gates.doublePulse_pulsed _ _ _ _⟩

/-- With an empty list the boundary's firing is the only one. -/
theorem Gates.schedule_of_empty (g : Gates) (cfg : Configuration) (period angle : Nat) (b : Boundary)
    (hmode : g.mode = .enabled) (hangle : g.latched = some angle) (hempty : g.firings = []) :
    g.schedule cfg period b = { g with firings :=
      [⟨Fin.ofNat 6 b.sector, b.time + BitVec.ofNat 32 (angle * period / 3600), b.time⟩] } := by
  rw [g.schedule_of_enabled cfg period angle b hmode hangle,
    g.advanceOldest_of_room cfg b.time (by rw [hempty]; decide), hempty]
  rfl

end Sys2Proof.Machine
end

section
/-! SUPPORT. A boundary at the regulator and the generator, by what the station does on the way: firing throughout, idle
throughout, stopped, or started (R12, R154 to R157, R159, R161, R165, R167). -/

namespace Sys2Proof.Machine

/-- The regulator after the boundary's update, for a station that fires (R154 to R156). -/
def State.regulated (x : State) (cfg : Configuration) : Regulator :=
  x.regulator.update cfg (min x.allocator.setpoint x.sampler.figures.capability) x.sampler.figures.current

/-- An INHIBITED generator that gives and holds nothing (R165). -/
structure Gates.Blocked (g : Gates) : Prop where
  mode : g.mode = .inhibited
  firings : g.firings = []
  outputs : g.outputs = Vector.replicate 6 none

theorem Gates.blocked_blockedGates (g : Gates) : (blockedGates g).Blocked := ⟨rfl, rfl, rfl⟩

theorem Gates.Blocked.eq {g : Gates} (h : g.Blocked) : blockedGates g = g := by
  obtain ⟨mode, latched, firings, outputs⟩ := g
  obtain ⟨hmode, hfirings, houtputs⟩ := h
  cases hmode
  cases hfirings
  cases houtputs
  rfl

theorem Gates.Blocked.output {g : Gates} (h : g.Blocked) (i : Fin 6) : g.outputs[i] = none := by
  rw [h.outputs]
  simp

/-- A generator is blocked in a sound part whose station does not fire (R159, R165). -/
theorem Gates.blocked_of_sound {s : State} (h : s.GatesSound) (hs : s.station.state.firing = false) :
    s.gates.Blocked := by
  obtain ⟨-, hinhibited, henabled, -⟩ := h
  have hmode : s.gates.mode = .inhibited := by
    cases hm : s.gates.mode with
    | inhibited => rfl
    | enabled =>
      have := (henabled hm).1
      rw [hs] at this
      exact Bool.noConfusion this
  have hquiet := hinhibited hmode
  simp only [Gates.Active, not_or, not_exists, not_not] at hquiet
  refine ⟨hmode, hquiet.1, Vector.ext fun i hi => ?_⟩
  have := hquiet.2 ⟨i, hi⟩
  simpa using this

theorem Gates.Blocked.congr_latch {g : Gates} (h : g.Blocked) (angle : Option Nat) : (g.latch angle).Blocked := by
  unfold Gates.latch
  split
  · exact h
  · exact ⟨h.mode, h.firings, h.outputs⟩

section
variable {base : State} {cfg : Configuration} {r : FigureReport} {b : Boundary} {order : List Neighbour}
  {done : List Neighbour} {d : Delivery} {n : Neighbour}

/-! ### The regulator's turn by the generator's stage (R161, R167) -/

theorem State.regulated_congr {x y : State} (hregulator : x.regulator = y.regulator)
    (hsetpoint : x.allocator.setpoint = y.allocator.setpoint) (hsampler : x.sampler = y.sampler) :
    x.regulated cfg = y.regulated cfg := by
  unfold State.regulated
  rw [hregulator, hsetpoint, hsampler]

theorem Delivery.regulate_awaited (hf : d.state.station.state.firing = true) (hstage : d.stage = .awaited) :
    d.regulate cfg = { d with
      state := { d.state with regulator := d.state.regulated cfg }
      angle := some (d.state.regulated cfg).lastAngle } := by
  unfold Delivery.regulate
  rw [if_pos hf, hstage]
  rfl

theorem Delivery.regulate_taken (hf : d.state.station.state.firing = true) (hstage : d.stage = .taken) :
    d.regulate cfg = { d with state := { d.state with
      regulator := d.state.regulated cfg
      gates := d.state.gates.latch (some (d.state.regulated cfg).lastAngle) } } := by
  unfold Delivery.regulate
  rw [if_pos hf, hstage]
  rfl

theorem Delivery.regulate_released (hf : d.state.station.state.firing = true) (hstage : d.stage = .released) :
    d.regulate cfg = { d with state := { d.state with regulator := d.state.regulated cfg } } := by
  unfold Delivery.regulate
  rw [if_pos hf, hstage]
  rfl

/-! ### A station that fires, at a tracked boundary -/

/-- So far the station fires: the regulator and the generator have had their turns, or not (R154, R161). -/
structure FiringSoFar (base : State) (cfg : Configuration) (b : Boundary) (done : List Neighbour) (d : Delivery) :
    Prop where
  firing : d.state.station.state.firing = true
  setpoint : d.state.allocator.setpoint = base.allocator.setpoint
  destination : d.state.station.destination = some .off → base.station.destination = some .off
  sampler : d.state.sampler = base.sampler
  tracker : d.state.tracker = base.tracker
  regulator : d.state.regulator = if .regulator ∈ done then base.regulated cfg else base.regulator
  awaited : .generator ∉ done → d.stage = .awaited ∧ d.state.gates = base.gates ∧
    d.angle = if .regulator ∈ done then some (base.regulated cfg).lastAngle else none
  taken : .generator ∈ done → d.stage = .taken ∧ d.angle = none ∧
    d.state.gates = (base.gates.schedule cfg base.tracker.period b).latch
      (if .regulator ∈ done then some (base.regulated cfg).lastAngle else none)

/-- The station has stopped firing on the way: the gates are blocked, and the regulator keeps what it had there, unless
the station is in OFF (R153, R165). -/
structure StoppedSoFar (base : State) (cfg : Configuration) (order : List Neighbour) (d : Delivery) : Prop where
  idle : Idle d.state
  gates : d.state.gates.Blocked
  regulator : d.state.regulator = base.regulator ∨ d.state.regulator = base.regulated cfg ∨
    (base.station.destination = some .off ∧ d.state.regulator = restRegulator cfg)
  first : (∀ n, n ≠ .regulator → n ≠ .generator → actsBefore order .regulator n) →
    d.state.regulator = base.regulated cfg ∨
      (base.station.destination = some .off ∧ d.state.regulator = restRegulator cfg)
  last : (∀ n, n ≠ .regulator → n ≠ .generator → actsBefore order n .regulator) →
    d.state.regulator = base.regulator ∨
      (base.station.destination = some .off ∧ d.state.regulator = restRegulator cfg)

theorem FiringSoFar.start (hs : base.station.state.firing = true) :
    FiringSoFar base cfg b [] ⟨base, none, .awaited⟩ :=
  ⟨hs, rfl, id, rfl, rfl, rfl, fun _ => ⟨rfl, rfl, rfl⟩, fun h => by simp at h⟩

theorem FiringSoFar.regulate (h : FiringSoFar base cfg b done d) (hn : .regulator ∉ done) :
    FiringSoFar base cfg b (done ++ [.regulator]) (d.regulate cfg) := by
  have hregulator : d.state.regulator = base.regulator := by rw [h.regulator, if_neg hn]
  have hupdated : d.state.regulated cfg = base.regulated cfg :=
    State.regulated_congr hregulator h.setpoint h.sampler
  have hmem : Neighbour.regulator ∈ done ++ [Neighbour.regulator] := by simp
  have hgenerator : Neighbour.generator ∈ done ++ [Neighbour.regulator] ↔ .generator ∈ done := by simp
  by_cases hg : .generator ∈ done
  · obtain ⟨hstage, hangle, hgates⟩ := h.taken hg
    rw [Delivery.regulate_taken h.firing hstage, hupdated]
    refine ⟨h.firing, h.setpoint, h.destination, h.sampler, h.tracker, (if_pos hmem).symm,
      fun hng => absurd (hgenerator.mpr hg) hng, fun _ => ⟨hstage, hangle, ?_⟩⟩
    have hlatched : d.state.gates.latch (some (base.regulated cfg).lastAngle) =
        (base.gates.schedule cfg base.tracker.period b).latch (some (base.regulated cfg).lastAngle) := by
      rw [hgates, if_neg hn]
      rfl
    rw [if_pos hmem]
    exact hlatched
  · obtain ⟨hstage, hgates, hangle⟩ := h.awaited hg
    rw [Delivery.regulate_awaited h.firing hstage, hupdated]
    exact ⟨h.firing, h.setpoint, h.destination, h.sampler, h.tracker, (if_pos hmem).symm,
      fun _ => ⟨hstage, hgates, (if_pos hmem).symm⟩, fun hng => absurd (hgenerator.mp hng) hg⟩

theorem FiringSoFar.generate (h : FiringSoFar base cfg b done d) (hn : .generator ∉ done) :
    FiringSoFar base cfg b (done ++ [.generator]) (d.generate cfg b) := by
  obtain ⟨hstage, hgates, hangle⟩ := h.awaited hn
  have hregulator : Neighbour.regulator ∈ done ++ [Neighbour.generator] ↔ .regulator ∈ done := by simp
  have hmem : Neighbour.generator ∈ done ++ [Neighbour.generator] := by simp
  refine ⟨h.firing, h.setpoint, h.destination, h.sampler, h.tracker, ?_, fun hng => absurd hmem hng,
    fun _ => ⟨rfl, rfl, ?_⟩⟩
  · simp only [hregulator]
    exact h.regulator
  · simp only [hregulator]
    show (d.state.gates.schedule cfg d.state.tracker.period b).latch d.angle = _
    rw [hgates, hangle, h.tracker]

/-- A station that stops at `n` has had the regulator's turn exactly if that acts before `n`. -/
theorem FiringSoFar.stops (h : FiringSoFar base cfg b done d) (hr : n ≠ .regulator) (hg : n ≠ .generator)
    (hbefore : ∀ m, actsBefore order m n ↔ m ∈ done) (x : State) (hx : StopsFiring cfg d.state x) :
    StoppedSoFar base cfg order { d with state := x } := by
  have hoff : ∀ ρ, d.state.regulator = ρ → x.regulator = ρ ∨
      (base.station.destination = some .off ∧ x.regulator = restRegulator cfg) := by
    intro ρ hρ
    rcases hx.regulator with hkept | ⟨hdest, hrest⟩
    · exact .inl (hkept.trans hρ)
    · exact .inr ⟨h.destination hdest, hrest⟩
  refine ⟨hx.idle, by rw [hx.gates]; exact Gates.blocked_blockedGates _, ?_, fun hfirst => ?_, fun hlast => ?_⟩
  · by_cases hmem : .regulator ∈ done
    · exact .inr (hoff _ (by rw [h.regulator, if_pos hmem]))
    · rcases hoff _ (by rw [h.regulator, if_neg hmem]) with hkept | hrest
      · exact .inl hkept
      · exact .inr (.inr hrest)
  · have hmem : .regulator ∈ done := (hbefore _).mp (hfirst n hr hg)
    exact hoff _ (by rw [h.regulator, if_pos hmem])
  · have hmem : .regulator ∉ done := fun hmem =>
      absurd ((hbefore _).mpr hmem) (Nat.lt_asymm (hlast n hr hg))
    exact hoff _ (by rw [h.regulator, if_neg hmem])

theorem FiringSoFar.stays (h : FiringSoFar base cfg b done d) (hr : n ≠ .regulator) (hg : n ≠ .generator) (x : State)
    (hx : StaysFiring d.state x) (hsampler : x.sampler = d.state.sampler) (htracker : x.tracker = d.state.tracker) :
    FiringSoFar base cfg b (done ++ [n]) { d with state := x } := by
  have hregulator : Neighbour.regulator ∈ done ++ [n] ↔ .regulator ∈ done := by simp [Ne.symm hr]
  have hgenerator : Neighbour.generator ∈ done ++ [n] ↔ .generator ∈ done := by simp [Ne.symm hg]
  refine ⟨hx.firing, hx.setpoint.trans h.setpoint, fun hdest => h.destination (hx.destination hdest),
    hsampler.trans h.sampler, htracker.trans h.tracker, ?_, fun hng => ?_, fun hng => ?_⟩
  · simp only [hregulator]
    exact hx.regulator.trans h.regulator
  · obtain ⟨hstage, hgates, hangle⟩ := h.awaited (mt hgenerator.mpr hng)
    simp only [hregulator]
    exact ⟨hstage, hx.gates.trans hgates, hangle⟩
  · obtain ⟨hstage, hangle, hgates⟩ := h.taken (hgenerator.mp hng)
    simp only [hregulator]
    exact ⟨hstage, hangle, hx.gates.trans hgates⟩

/-! ### The station on the way, whatever the neighbour -/

theorem State.stationAct_frame (x : State) (n : Neighbour) :
    (x.stationAct cfg r n).sampler = x.sampler ∧ (x.stationAct cfg r n).tracker = x.tracker := by
  have h := Delivery.act_frame cfg r ⟨x, none, .awaited⟩
  cases n
  case regulator | generator => exact ⟨rfl, rfl⟩
  case classifier => exact ⟨(h .classifier).2.2.2.1, (h .classifier).2.2.1⟩
  case overcurrent => exact ⟨(h .overcurrent).2.2.2.1, (h .overcurrent).2.2.1⟩
  case overTemperature => exact ⟨(h .overTemperature).2.2.2.1, (h .overTemperature).2.2.1⟩
  case controller => exact ⟨(h .controller).2.2.2.1, (h .controller).2.2.1⟩

theorem Idle.not_released (h : Idle d.state) (before : StationState) :
    d.state.station.state = .starting ∨ d.state.station.state = .restart → d.state.station.state = before := by
  intro hreleased
  have := h.firing
  rcases hreleased with hs | hs <;> rw [hs] at this <;> exact Bool.noConfusion this

theorem Delivery.pass_station_stays (hr : n ≠ .regulator) (hg : n ≠ .generator)
    (h : StaysFiring d.state (d.state.stationAct cfg r n)) :
    d.pass cfg r n = { d with state := d.state.stationAct cfg r n } := by
  refine Delivery.pass_station_of_kept hr hg fun hreleased => ?_
  rcases h.state with hkept | hride
  · exact hkept
  · rw [hride] at hreleased
    rcases hreleased with hs | hs <;> exact StationState.noConfusion hs

theorem Delivery.pass_station_idle (hr : n ≠ .regulator) (hg : n ≠ .generator)
    (h : Idle (d.state.stationAct cfg r n)) : d.pass cfg r n = { d with state := d.state.stationAct cfg r n } :=
  Delivery.pass_station_of_kept hr hg (h.not_released (d := { d with state := d.state.stationAct cfg r n }) _)

theorem Delivery.generate_idle (h : d.state.gates.mode = .inhibited) :
    (d.generate cfg b).state = { d.state with gates := d.state.gates.latch d.angle } := by
  unfold Delivery.generate
  rw [Gates.schedule_of_inhibited _ _ _ _ h]
  rfl

theorem StoppedSoFar.pass (hrange : configurationInRange cfg = true) (hb : r.boundary = some b)
    (h : StoppedSoFar base cfg order d) (n : Neighbour) : StoppedSoFar base cfg order (d.pass cfg r n) := by
  by_cases hr : n = .regulator
  · rw [hr, Delivery.pass_regulator b hb, Delivery.regulate_of_idle h.idle.firing]
    exact h
  · by_cases hg : n = .generator
    · have hstate := Delivery.generate_idle (cfg := cfg) (b := b) h.gates.mode
      rw [hg, Delivery.pass_generator b hb]
      refine ⟨?_, ?_, ?_, ?_, ?_⟩ <;> rw [hstate]
      · exact ⟨h.idle.firing, h.idle.noStart⟩
      · exact h.gates.congr_latch _
      · exact h.regulator
      · exact h.first
      · exact h.last
    · have hidle := State.stationAct_of_idle (r := r) hrange h.idle n
      rw [Delivery.pass_station_idle hr hg hidle.idle]
      refine ⟨hidle.idle, ?_, ?_, ?_, ?_⟩
      · rcases hidle.gates with hgates | hgates
        · exact hgates ▸ h.gates
        · exact hgates ▸ Gates.blocked_blockedGates _
      · exact hidle.regulator ▸ h.regulator
      · exact hidle.regulator ▸ h.first
      · exact hidle.regulator ▸ h.last

/-- A tracked boundary at a station that fires before it. -/
theorem State.deliver_of_firing (hrange : configurationInRange cfg = true) (hb : r.boundary = some b)
    (hs : base.station.state.firing = true) :
    ((base.deliver cfg r order).station.state.firing = true ∧
      (base.deliver cfg r order).regulator = base.regulated cfg ∧
      (base.deliver cfg r order).gates =
        (base.gates.schedule cfg base.tracker.period b).latch (some (base.regulated cfg).lastAngle)) ∨
    ∃ d : Delivery, d.state = base.deliver cfg r order ∧ StoppedSoFar base cfg (deliveryOrder order) d := by
  obtain ⟨done, d, hall, hstate, hd⟩ := base.deliver_induction cfg r order
    (fun done d => FiringSoFar base cfg b done d ∨ StoppedSoFar base cfg (deliveryOrder order) d)
    (.inl (FiringSoFar.start hs)) (by
      intro done n d hn hbefore hd
      rcases hd with hfiring | hstopped
      · by_cases hr : n = .regulator
        · subst hr
          rw [Delivery.pass_regulator b hb]
          exact .inl (hfiring.regulate hn)
        · by_cases hg : n = .generator
          · subst hg
            rw [Delivery.pass_generator b hb]
            exact .inl (hfiring.generate hn)
          · rcases State.stationAct_of_firing (r := r) hrange hfiring.firing n with hstays | hstops
            · rw [Delivery.pass_station_stays hr hg hstays]
              exact .inl (hfiring.stays hr hg _ hstays (State.stationAct_frame _ n).1 (State.stationAct_frame _ n).2)
            · rw [Delivery.pass_station_idle hr hg hstops.idle]
              exact .inr (hfiring.stops hr hg hbefore _ hstops)
      · exact .inr (hstopped.pass hrange hb n))
  rcases hd with hfiring | hstopped
  · obtain ⟨-, -, hgates⟩ := hfiring.taken (hall .generator)
    have hregulator := hfiring.regulator
    rw [if_pos (hall .regulator)] at hregulator hgates
    rw [← hstate]
    exact .inl ⟨hfiring.firing, hregulator, hgates⟩
  · exact .inr ⟨d, hstate, hstopped⟩

/-! ### An idle station, and a boundary that reaches neither -/

/-- So far the station has been idle: regulator and generator are as before the boundary (R154, R161). -/
structure IdleSoFar (base : State) (d : Delivery) : Prop where
  idle : Idle d.state
  regulator : d.state.regulator = base.regulator
  gates : d.state.gates = base.gates
  angle : d.angle = none

theorem IdleSoFar.pass (hrange : configurationInRange cfg = true) (hblocked : base.gates.Blocked)
    (h : IdleSoFar base d) (n : Neighbour) : IdleSoFar base (d.pass cfg r n) := by
  have hmode : d.state.gates.mode = .inhibited := by rw [h.gates, hblocked.mode]
  have hcases : (n = .regulator ∨ n = .generator) ∨ (n ≠ .regulator ∧ n ≠ .generator) := by
    cases n <;> simp
  rcases hcases with hn | ⟨hr, hg⟩
  · cases hb : r.boundary with
    | none =>
      rw [Delivery.pass_free hb hn]
      exact h
    | some b =>
      rcases hn with rfl | rfl
      · rw [Delivery.pass_regulator b hb, Delivery.regulate_of_idle h.idle.firing]
        exact h
      · have hstate : (d.generate cfg b).state = d.state := by
          rw [Delivery.generate_idle hmode, h.angle]
          rfl
        rw [Delivery.pass_generator b hb]
        exact ⟨by rw [hstate]; exact h.idle, by rw [hstate]; exact h.regulator, by rw [hstate]; exact h.gates, rfl⟩
  · have hidle := State.stationAct_of_idle (r := r) hrange h.idle n
    rw [Delivery.pass_station_idle hr hg hidle.idle]
    refine ⟨hidle.idle, hidle.regulator.trans h.regulator, ?_, h.angle⟩
    rcases hidle.gates with hgates | hgates
    · exact hgates.trans h.gates
    · exact hgates.trans (by rw [h.gates, hblocked.eq])

/-- A boundary of either mode at an idle station with blocked gates (R154, R161). -/
theorem State.deliver_of_idle (hrange : configurationInRange cfg = true) (hs : Idle base) (hblocked : base.gates.Blocked) :
    (base.deliver cfg r order).regulator = base.regulator ∧ (base.deliver cfg r order).gates = base.gates := by
  obtain ⟨-, d, -, hstate, hd⟩ := base.deliver_induction cfg r order (fun _ d => IdleSoFar base d)
    ⟨hs, rfl, rfl, rfl⟩ (fun _ n _ _ _ h => h.pass hrange hblocked n)
  rw [← hstate]
  exact ⟨hd.regulator, hd.gates⟩

/-- So far a free-running boundary has met a station that fires. -/
structure FreeFiring (base : State) (d : Delivery) : Prop where
  firing : d.state.station.state.firing = true
  destination : d.state.station.destination = some .off → base.station.destination = some .off
  regulator : d.state.regulator = base.regulator
  gates : d.state.gates = base.gates

/-- A free-running boundary has met a station that stopped firing on the way (R165). -/
structure FreeStopped (base : State) (cfg : Configuration) (d : Delivery) : Prop where
  idle : Idle d.state
  gates : d.state.gates = blockedGates base.gates
  regulator : d.state.regulator = base.regulator ∨
    (base.station.destination = some .off ∧ d.state.regulator = restRegulator cfg)

theorem FreeStopped.pass (hrange : configurationInRange cfg = true) (hb : r.boundary = none)
    (h : FreeStopped base cfg d) (n : Neighbour) : FreeStopped base cfg (d.pass cfg r n) := by
  have hcases : (n = .regulator ∨ n = .generator) ∨ (n ≠ .regulator ∧ n ≠ .generator) := by
    cases n <;> simp
  rcases hcases with hn | ⟨hr, hg⟩
  · rw [Delivery.pass_free hb hn]
    exact h
  · have hidle := State.stationAct_of_idle (r := r) hrange h.idle n
    rw [Delivery.pass_station_idle hr hg hidle.idle]
    refine ⟨hidle.idle, ?_, hidle.regulator ▸ h.regulator⟩
    rcases hidle.gates with hgates | hgates
    · exact hgates.trans h.gates
    · rw [hgates, h.gates]
      rfl

theorem FreeFiring.pass (hrange : configurationInRange cfg = true) (hb : r.boundary = none)
    (h : FreeFiring base d) (n : Neighbour) :
    FreeFiring base (d.pass cfg r n) ∨ FreeStopped base cfg (d.pass cfg r n) := by
  have hcases : (n = .regulator ∨ n = .generator) ∨ (n ≠ .regulator ∧ n ≠ .generator) := by
    cases n <;> simp
  rcases hcases with hn | ⟨hr, hg⟩
  · rw [Delivery.pass_free hb hn]
    exact .inl h
  · rcases State.stationAct_of_firing (r := r) hrange h.firing n with hstays | hstops
    · rw [Delivery.pass_station_stays hr hg hstays]
      exact .inl ⟨hstays.firing, fun hdest => h.destination (hstays.destination hdest),
        hstays.regulator.trans h.regulator, hstays.gates.trans h.gates⟩
    · rw [Delivery.pass_station_idle hr hg hstops.idle]
      refine .inr ⟨hstops.idle, by rw [hstops.gates, h.gates], ?_⟩
      rcases hstops.regulator with hkept | ⟨hdest, hrest⟩
      · exact .inl (hkept.trans h.regulator)
      · exact .inr ⟨h.destination hdest, hrest⟩

/-- A free-running boundary at a station that fires before it (R154, R165). -/
theorem State.deliver_of_free (hrange : configurationInRange cfg = true) (hb : r.boundary = none)
    (hs : base.station.state.firing = true) :
    ∃ d : Delivery, d.state = base.deliver cfg r order ∧ (FreeFiring base d ∨ FreeStopped base cfg d) := by
  obtain ⟨-, d, -, hstate, hd⟩ := base.deliver_induction cfg r order
    (fun _ d => FreeFiring base d ∨ FreeStopped base cfg d) (.inl ⟨hs, id, rfl, rfl⟩)
    (fun _ n _ _ _ h => h.elim (fun h => h.pass hrange hb n) fun h => .inr (h.pass hrange hb n))
  exact ⟨d, hstate, hd⟩

end

end Sys2Proof.Machine
end

section
/-! SUPPORT. A tracked boundary at a station in SYNCING whose start is due: it starts at the controller's turn, unless a sag or
a trip has acted before, and is blocked again by one that acts behind it (R10, R12, R26, R159, R161, R167). -/

namespace Sys2Proof.Machine

/-- A start is due at the controller's turn, and the trip reports are those of the figure set (R10, R57, R58). -/
structure StartDue (base : State) (r : FigureReport) : Prop where
  state : base.station.state = .syncing
  classifier : base.classifier.state = .normal
  tracker : base.tracker.state = .locked
  fits : base.station.StackFits
  overcurrent : r.overcurrent = base.sampler.overcurrent
  overTemperature : r.overTemperature = base.sampler.overTemperature

section
variable {base x : State} {cfg : Configuration} {r : FigureReport} {b : Boundary} {order : List Neighbour}
  {done : List Neighbour} {d : Delivery} {n : Neighbour}

/-! ### The neighbours of a NORMAL grid -/

/-- A neighbour that the figure set does not turn against the station leaves the part alone. -/
theorem State.stationAct_of_quiet (hover : r.overcurrent = x.sampler.overcurrent)
    (htemperature : r.overTemperature = x.sampler.overTemperature) (hc : x.classifier.state = .normal)
    (hn : n ≠ .controller) (hquiet : ¬ standsAgainst cfg x.sampler n) : x.stationAct cfg r n = x := by
  unfold standsAgainst at hquiet
  cases n
  case controller => exact absurd rfl hn
  case regulator | generator => rfl
  case classifier => simp_all [State.stationAct, State.classifyFigure]
  case overcurrent => simp_all [State.stationAct]
  case overTemperature => simp_all [State.stationAct]

theorem State.trip_regulator (cause : TripCause) : (x.trip cfg cause).regulator = x.regulator := by
  unfold State.trip
  split <;> simp [Regulator.enter, State.setFault]

/-- A sag or a trip that acts before the controller leaves the station idle. -/
theorem State.stationAct_of_stander_syncing (hrange : configurationInRange cfg = true)
    (hover : r.overcurrent = x.sampler.overcurrent) (htemperature : r.overTemperature = x.sampler.overTemperature)
    (hs : x.station.state = .syncing) (hc : x.classifier.state = .normal) (hstands : standsAgainst cfg x.sampler n) :
    StaysIdle x (x.stationAct cfg r n) := by
  have htrip (cause : TripCause) : StaysIdle x (x.trip cfg cause) :=
    let hstops := x.trip_stops (cfg := cfg) cause (by simp [hs]) (by simp [hs])
    ⟨hstops.idle, State.trip_regulator cause, .inr hstops.gates⟩
  rcases hstands with ⟨rfl, hsag⟩ | ⟨rfl, hovercurrent⟩ | ⟨rfl, hhot⟩
  · obtain ⟨e, hentered⟩ : ∃ e, figureEntered x.classifier cfg x.sampler.figures.voltage = some e :=
      ⟨_, by rw [figureEntered, if_pos (.inl hc), if_pos hsag]⟩
    have hstate := figureHeard_state_of_some (s := x) _ hentered
    have hne : e ≠ .normal := by rcases figureEntered_ne_normal _ hentered with he | he <;> simp [he]
    have hact : x.stationAct cfg r .classifier = figureHeard x cfg x.sampler.figures.voltage := by
      show x.classifyFigure cfg x.sampler.figures.voltage r.setpointBefore = _
      rw [State.classifyFigure_eq _ _ hrange, hentered]
      exact State.reactTo_of_idle (x := figureHeard x cfg x.sampler.figures.voltage) (by
        show x.station.state.firing = false
        rw [hs]; rfl) e _ (figureEntered_ne_normal _ hentered) hstate
    rw [hact]
    exact ⟨⟨by show x.station.state.firing = false; rw [hs]; rfl, fun _ _ => by rw [hstate]; exact hne⟩, rfl, .inl rfl⟩
  · simp only [State.stationAct, hover, hovercurrent, if_true]
    exact htrip _
  · simp only [State.stationAct, htemperature, hhot, if_true]
    exact htrip _

/-- A sag or a trip that acts behind the start blocks the gates again. -/
theorem State.stationAct_of_stander_starting (hrange : configurationInRange cfg = true)
    (hover : r.overcurrent = x.sampler.overcurrent) (htemperature : r.overTemperature = x.sampler.overTemperature)
    (hs : x.station.state = .starting) (hc : x.classifier.state = .normal) (hstands : standsAgainst cfg x.sampler n) :
    StopsFiring cfg x (x.stationAct cfg r n) := by
  have htrip (cause : TripCause) : StopsFiring cfg x (x.trip cfg cause) :=
    x.trip_stops (cfg := cfg) cause (by simp [hs]) (by simp [hs])
  rcases hstands with ⟨rfl, hsag⟩ | ⟨rfl, hovercurrent⟩ | ⟨rfl, hhot⟩
  · obtain ⟨e, hentered⟩ : ∃ e, figureEntered x.classifier cfg x.sampler.figures.voltage = some e :=
      ⟨_, by rw [figureEntered, if_pos (.inl hc), if_pos hsag]⟩
    have hstate := figureHeard_state_of_some (s := x) _ hentered
    have hdisturbed := figureEntered_ne_normal _ hentered
    have hact : x.stationAct cfg r .classifier = (figureHeard x cfg x.sampler.figures.voltage).enter cfg .syncing := by
      have hreact : (figureHeard x cfg x.sampler.figures.voltage).reactTo cfg ⟨e, true⟩ r.setpointBefore =
          (figureHeard x cfg x.sampler.figures.voltage).enter cfg .syncing := by
        unfold State.reactTo
        rw [show (figureHeard x cfg x.sampler.figures.voltage).station.state = .starting from hs]
        rcases hdisturbed with rfl | rfl <;> rfl
      show x.classifyFigure cfg x.sampler.figures.voltage r.setpointBefore = _
      rw [State.classifyFigure_eq _ _ hrange, hentered, ← hreact]
      rfl
    have hstops := StopsFiring.ofSyncing (x := figureHeard x cfg x.sampler.figures.voltage) (cfg := cfg)
      (by rw [hstate]; rcases hdisturbed with rfl | rfl <;> decide)
    rw [hact]
    exact ⟨hstops.idle, hstops.gates, hstops.regulator⟩
  · simp only [State.stationAct, hover, hovercurrent, if_true]
    exact htrip _
  · simp only [State.stationAct, htemperature, hhot, if_true]
    exact htrip _

/-- The controller's turn starts the station (R10). -/
theorem StartDue.controller (h : StartDue base r) (hrange : configurationInRange cfg = true) :
    base.stationAct cfg r .controller = startedFrom base cfg := by
  have hstart := State.testStart_eq (s := base) hrange h.state h.fits
  rw [if_pos ⟨h.tracker, h.classifier⟩] at hstart
  show base.boundaryTests cfg = _
  unfold State.boundaryTests
  rw [h.state]
  exact hstart

/-! ### Before the controller's turn -/

/-- So far the station waits for the controller's turn, and nothing has acted against it. -/
structure WaitingSoFar (base : State) (cfg : Configuration) (done : List Neighbour) (d : Delivery) : Prop where
  state : d.state = base
  angle : d.angle = none
  stage : d.stage = if .generator ∈ done then .taken else .awaited
  controller : .controller ∉ done
  quiet : ∀ m ∈ done, ¬ standsAgainst cfg base.sampler m

/-- A neighbour that neither starts the station nor turns against it. -/
theorem WaitingSoFar.pass (h : WaitingSoFar base cfg done d) (hdue : StartDue base r) (hblocked : base.gates.Blocked)
    (hb : r.boundary = some b) (hn : n ≠ .controller) (hquiet : ¬ standsAgainst cfg base.sampler n) :
    WaitingSoFar base cfg (done ++ [n]) (d.pass cfg r n) := by
  have hcontroller : Neighbour.controller ∉ done ++ [n] := by simp [h.controller, Ne.symm hn]
  have hquieted : ∀ m ∈ done ++ [n], ¬ standsAgainst cfg base.sampler m := by
    intro m hm
    rcases List.mem_append.mp hm with hm | hm
    · exact h.quiet m hm
    · rw [List.mem_singleton.mp hm]
      exact hquiet
  have hidle : d.state.station.state.firing = false := by rw [h.state, hdue.state]; rfl
  by_cases hr : n = .regulator
  · subst hr
    rw [Delivery.pass_regulator b hb, Delivery.regulate_of_idle hidle]
    exact ⟨h.state, h.angle, by rw [h.stage]; simp, hcontroller, hquieted⟩
  · by_cases hg : n = .generator
    · subst hg
      have hstate := Delivery.generate_idle (d := d) (cfg := cfg) (b := b) (by rw [h.state, hblocked.mode])
      rw [Delivery.pass_generator b hb]
      refine ⟨?_, rfl, by simp [Delivery.generate], hcontroller, hquieted⟩
      rw [hstate, h.angle, ← h.state]
      rfl
    · have hact : d.state.stationAct cfg r n = base := by
        rw [h.state]
        exact State.stationAct_of_quiet hdue.overcurrent hdue.overTemperature hdue.classifier hn hquiet
      rw [Delivery.pass_station_of_kept hr hg (fun _ => by rw [hact, h.state]), hact]
      exact ⟨rfl, h.angle, by rw [h.stage]; simp [Ne.symm hg], hcontroller, hquieted⟩

/-- A sag or a trip before the controller's turn: the station does not start. -/
theorem State.deliver_of_prevented (hrange : configurationInRange cfg = true) (hdue : StartDue base r)
    (hblocked : base.gates.Blocked) (hb : r.boundary = some b)
    (hprevented : ∃ n, standsAgainst cfg base.sampler n ∧ actsBefore (deliveryOrder order) n .controller) :
    (base.deliver cfg r order).regulator = base.regulator ∧ (base.deliver cfg r order).gates = base.gates := by
  obtain ⟨done, d, hall, hstate, hd⟩ := base.deliver_induction cfg r order
    (fun done d => WaitingSoFar base cfg done d ∨ IdleSoFar base d)
    (.inl ⟨rfl, rfl, rfl, by simp, by simp⟩) (by
      intro done n d hn hbefore hd
      rcases hd with hwaiting | hidle
      · by_cases hc : n = .controller
        · obtain ⟨m, hstands, hfirst⟩ := hprevented
          exact absurd hstands (hwaiting.quiet m ((hbefore m).mp (hc ▸ hfirst)))
        · by_cases hstands : standsAgainst cfg base.sampler n
          · have hr : n ≠ .regulator := by rintro rfl; simp [standsAgainst] at hstands
            have hg : n ≠ .generator := by rintro rfl; simp [standsAgainst] at hstands
            have hact := State.stationAct_of_stander_syncing hrange hdue.overcurrent hdue.overTemperature hdue.state
              hdue.classifier hstands
            have hpass := Delivery.pass_station_idle (d := d) (r := r) (cfg := cfg) hr hg
              (by rw [hwaiting.state]; exact hact.idle)
            rw [hpass, hwaiting.state]
            refine .inr ⟨hact.idle, hact.regulator, ?_, hwaiting.angle⟩
            rcases hact.gates with hgates | hgates
            · exact hgates
            · exact hgates.trans hblocked.eq
          · exact .inl (hwaiting.pass hdue hblocked hb hc hstands)
      · exact .inr (hidle.pass hrange hblocked n))
  rcases hd with hwaiting | hidle
  · exact absurd (hall .controller) hwaiting.controller
  · rw [← hstate]
    exact ⟨hidle.regulator, hidle.gates⟩

end

end Sys2Proof.Machine
end

section
/-! SUPPORT. Behind the controller's turn: the station has started, and a neighbour that acts against it blocks it again
(R10, R12, R26, R159, R161, R162, R165, R167). -/

namespace Sys2Proof.Machine

section
variable {base : State} {cfg : Configuration} {r : FigureReport} {b : Boundary} {order : List Neighbour}
  {done : List Neighbour} {d : Delivery} {n : Neighbour}

/-- The regulator's turn lies behind the start and has been taken. -/
abbrev UpdatedBehindStart (order done : List Neighbour) : Prop :=
  .regulator ∈ done ∧ actsBefore order .controller .regulator

/-- The boundary's firing with the entry angle of a start (R153, R162). -/
def entryFiring (base : State) (cfg : Configuration) (b : Boundary) : PendingFiring :=
  ⟨Fin.ofNat 6 b.sector, b.time + BitVec.ofNat 32 (cfg.alphaMax * base.tracker.period / 3600), b.time⟩

/-- So far the station has started, and nothing has acted against it. -/
structure StartedSoFar (base : State) (cfg : Configuration) (b : Boundary) (order done : List Neighbour)
    (d : Delivery) : Prop where
  state : d.state = { startedFrom base cfg with regulator := d.state.regulator, gates := d.state.gates }
  controller : .controller ∈ done
  quiet : ∀ m ∈ done, ¬ standsAgainst cfg base.sampler m
  regulator : d.state.regulator =
    if UpdatedBehindStart order done then (startedFrom base cfg).regulated cfg else restRegulator cfg
  mode : d.state.gates.mode = .enabled
  outputs : d.state.gates.outputs = base.gates.outputs
  early : actsBefore order .generator .controller → .generator ∈ done ∧ d.stage = .released ∧ d.angle = none ∧
    d.state.gates.latched = some cfg.alphaMax ∧ d.state.gates.firings = []
  awaited : actsBefore order .controller .generator → .generator ∉ done →
    d.stage = .awaited ∧ d.state.gates.latched = some cfg.alphaMax ∧ d.state.gates.firings = [] ∧
    d.angle = if UpdatedBehindStart order done then some ((startedFrom base cfg).regulated cfg).lastAngle else none
  taken : actsBefore order .controller .generator → .generator ∈ done →
    d.stage = .taken ∧ d.angle = none ∧ d.state.gates.latched = some d.state.regulator.lastAngle ∧
    d.state.gates.firings = [entryFiring base cfg b]

/-- The station has started, and a neighbour has acted against it behind the start. -/
structure EndedSoFar (base : State) (cfg : Configuration) (order done : List Neighbour) (d : Delivery) : Prop where
  idle : Idle d.state
  gates : d.state.gates.Blocked
  controller : .controller ∈ done
  stander : ∃ m, standsAgainst cfg base.sampler m
  early : actsBefore order .generator .controller → .generator ∈ done ∧ d.state.gates.latched = some cfg.alphaMax
  awaited : actsBefore order .controller .generator → .generator ∉ done →
    d.angle.or d.state.gates.latched = some d.state.regulator.lastAngle
  taken : actsBefore order .controller .generator → .generator ∈ done →
    d.state.gates.latched = some d.state.regulator.lastAngle
  rest : actsBefore order .regulator .controller ∨ (∃ m, standsAgainst cfg base.sampler m ∧ actsBefore order m .regulator) →
    d.state.regulator = restRegulator cfg
  updated : actsBefore order .controller .regulator →
    (∀ m, standsAgainst cfg base.sampler m → actsBefore order .regulator m) →
    d.state.regulator = (startedFrom base cfg).regulated cfg

/-! ### The start -/

theorem WaitingSoFar.start (h : WaitingSoFar base cfg done d) (hrange : configurationInRange cfg = true)
    (hdue : StartDue base r) (hblocked : base.gates.Blocked) (hbefore : ∀ m, actsBefore order m .controller ↔ m ∈ done) :
    StartedSoFar base cfg b order (done ++ [.controller]) (d.pass cfg r .controller) := by
  have hact : d.state.stationAct cfg r .controller = startedFrom base cfg := by
    rw [h.state]
    exact hdue.controller hrange
  have hbeforeSyncing : d.state.station.state = .syncing := by rw [h.state, hdue.state]
  have hpass := Delivery.pass_station (d := d) (cfg := cfg) (r := r) (n := .controller) (by decide) (by decide)
  rw [hact, hbeforeSyncing] at hpass
  have hgenerator : Neighbour.generator ∈ done ++ [Neighbour.controller] ↔ .generator ∈ done := by simp
  have hnot : ¬ UpdatedBehindStart order (done ++ [.controller]) := by
    rintro ⟨hmem, hlate⟩
    have hmem : .regulator ∈ done := by simpa using hmem
    exact Nat.lt_asymm hlate ((hbefore _).mpr hmem)
  have hquiet : ∀ m ∈ done ++ [.controller], ¬ standsAgainst cfg base.sampler m := by
    intro m hm
    rcases List.mem_append.mp hm with hm | hm
    · exact h.quiet m hm
    · rw [List.mem_singleton.mp hm]
      simp [standsAgainst]
  by_cases hg : .generator ∈ done
  · have hreleased : d.pass cfg r .controller = ⟨startedFrom base cfg, d.angle, .released⟩ := by
      rw [hpass]
      unfold Delivery.noteRelease
      rw [if_pos ⟨by rw [h.stage, if_pos hg], by simp [startedFrom, enteredStation], .inl rfl⟩]
    have hearly : actsBefore order .generator .controller := (hbefore _).mpr hg
    rw [hreleased]
    exact ⟨rfl, by simp, hquiet, by rw [if_neg hnot]; rfl, rfl, rfl,
      fun _ => ⟨hgenerator.mpr hg, rfl, h.angle, rfl, hblocked.firings⟩,
      fun hlate => absurd hearly (Nat.lt_asymm hlate), fun hlate => absurd hearly (Nat.lt_asymm hlate)⟩
  · have hawaited : d.pass cfg r .controller = ⟨startedFrom base cfg, d.angle, .awaited⟩ := by
      rw [hpass]
      unfold Delivery.noteRelease
      rw [h.stage, if_neg hg, if_neg (fun hreleased => BoundaryStage.noConfusion hreleased.1)]
    rw [hawaited]
    exact ⟨rfl, by simp, hquiet, by rw [if_neg hnot]; rfl, rfl, rfl,
      fun hearly => absurd ((hbefore _).mp hearly) hg,
      fun _ _ => ⟨rfl, rfl, hblocked.firings, by rw [if_neg hnot]; exact h.angle⟩,
      fun _ hmem => absurd (hgenerator.mp hmem) hg⟩

/-! ### Behind the start -/

theorem StartedSoFar.firing (h : StartedSoFar base cfg b order done d) : d.state.station.state = .starting := by
  rw [h.state]
  rfl

theorem StartedSoFar.quiet_append (h : StartedSoFar base cfg b order done d)
    (hn : ¬ standsAgainst cfg base.sampler n) : ∀ m ∈ done ++ [n], ¬ standsAgainst cfg base.sampler m := by
  intro m hm
  rcases List.mem_append.mp hm with hm | hm
  · exact h.quiet m hm
  · rw [List.mem_singleton.mp hm]
    exact hn

theorem StartedSoFar.regulate (h : StartedSoFar base cfg b order done d) (hwhole : wholeOrder order = true)
    (hn : .regulator ∉ done)
    (hbefore : ∀ m, actsBefore order m .regulator ↔ m ∈ done) :
    StartedSoFar base cfg b order (done ++ [.regulator]) (d.regulate cfg) := by
  have hrest : d.state.regulator = restRegulator cfg := by
    rw [h.regulator, if_neg (fun hupdated => hn hupdated.1)]
  have hupdated : d.state.regulated cfg = (startedFrom base cfg).regulated cfg :=
    State.regulated_congr hrest (by rw [h.state]) (by rw [h.state])
  have hbehind : UpdatedBehindStart order (done ++ [.regulator]) := ⟨by simp, (hbefore _).mpr h.controller⟩
  have hbefore' : ¬ UpdatedBehindStart order done := fun hupdated => hn hupdated.1
  have hfiring : d.state.station.state.firing = true := by rw [h.firing]; rfl
  have hquiet := h.quiet_append (n := .regulator) (by simp [standsAgainst])
  have hgenerator : Neighbour.generator ∈ done ++ [Neighbour.regulator] ↔ .generator ∈ done := by simp
  have hcontroller : Neighbour.controller ∈ done ++ [Neighbour.regulator] := by simp [h.controller]
  rcases actsBefore_total hwhole (m := .generator) (n := .controller) (by decide) with hearly | hlate
  · obtain ⟨hmem, hstage, hangle, hlatched, hfirings⟩ := h.early hearly
    rw [Delivery.regulate_released hfiring hstage, hupdated]
    exact ⟨by rw [h.state], hcontroller, hquiet, (if_pos hbehind).symm, h.mode, h.outputs,
      fun _ => ⟨hgenerator.mpr hmem, hstage, hangle, hlatched, hfirings⟩,
      fun hlate => absurd hearly (Nat.lt_asymm hlate), fun hlate => absurd hearly (Nat.lt_asymm hlate)⟩
  · by_cases hmem : .generator ∈ done
    · obtain ⟨hstage, hangle, hlatched, hfirings⟩ := h.taken hlate hmem
      rw [Delivery.regulate_taken hfiring hstage, hupdated]
      exact ⟨by rw [h.state], hcontroller, hquiet, (if_pos hbehind).symm, h.mode, h.outputs,
        fun hearly => absurd hearly (Nat.lt_asymm hlate), fun _ hnot => absurd (hgenerator.mpr hmem) hnot,
        fun _ _ => ⟨hstage, hangle, rfl, hfirings⟩⟩
    · obtain ⟨hstage, hlatched, hfirings, hangle⟩ := h.awaited hlate hmem
      rw [Delivery.regulate_awaited hfiring hstage, hupdated]
      exact ⟨by rw [h.state], hcontroller, hquiet, (if_pos hbehind).symm, h.mode, h.outputs,
        fun hearly => absurd hearly (Nat.lt_asymm hlate),
        fun _ _ => ⟨hstage, hlatched, hfirings, (if_pos hbehind).symm⟩,
        fun _ hin => absurd (hgenerator.mp hin) hmem⟩

theorem StartedSoFar.generate (h : StartedSoFar base cfg b order done d) (hn : .generator ∉ done)
    (hbefore : ∀ m, actsBefore order m .generator ↔ m ∈ done) :
    StartedSoFar base cfg b order (done ++ [.generator]) (d.generate cfg b) := by
  have hlate : actsBefore order .controller .generator := (hbefore _).mpr h.controller
  obtain ⟨hstage, hlatched, hfirings, hangle⟩ := h.awaited hlate hn
  have hbehind : UpdatedBehindStart order (done ++ [.generator]) ↔ UpdatedBehindStart order done := by
    simp [UpdatedBehindStart]
  have htracker : d.state.tracker = base.tracker := by
    rw [h.state]
    rfl
  have hscheduled : d.state.gates.schedule cfg d.state.tracker.period b =
      { d.state.gates with firings := [entryFiring base cfg b] } := by
    rw [Gates.schedule_of_empty _ _ _ _ _ h.mode hlatched hfirings, htracker]
    rfl
  have hgenerate : d.generate cfg b = ⟨{ d.state with
      gates := ({ d.state.gates with firings := [entryFiring base cfg b] } : Gates).latch d.angle }, none, .taken⟩ := by
    unfold Delivery.generate
    rw [hscheduled]
    rfl
  have hlatch : (({ d.state.gates with firings := [entryFiring base cfg b] } : Gates).latch d.angle) =
      { d.state.gates with firings := [entryFiring base cfg b], latched := some d.state.regulator.lastAngle } := by
    rw [hangle, h.regulator]
    split
    · rfl
    · rw [show (restRegulator cfg).lastAngle = cfg.alphaMax from rfl, ← hlatched]
      rfl
  rw [hgenerate, hlatch]
  refine ⟨by rw [h.state], by simp [h.controller], h.quiet_append (by simp [standsAgainst]), ?_, h.mode, h.outputs,
    fun hearly => absurd hearly (Nat.lt_asymm hlate), fun _ hnot => absurd (by simp) hnot,
    fun _ _ => ⟨rfl, rfl, rfl, rfl⟩⟩
  simp only [hbehind]
  exact h.regulator

theorem StartedSoFar.station (h : StartedSoFar base cfg b order done d) (hdue : StartDue base r)
    (hr : n ≠ .regulator) (hg : n ≠ .generator) (hc : n ≠ .controller) (hquiet : ¬ standsAgainst cfg base.sampler n) :
    StartedSoFar base cfg b order (done ++ [n]) (d.pass cfg r n) := by
  have hsampler : d.state.sampler = base.sampler ∧ d.state.classifier = base.classifier := by
    rw [h.state]
    exact ⟨rfl, rfl⟩
  have hact : d.state.stationAct cfg r n = d.state :=
    State.stationAct_of_quiet (by rw [hsampler.1, hdue.overcurrent]) (by rw [hsampler.1, hdue.overTemperature])
      (by rw [hsampler.2, hdue.classifier]) hc (by rw [hsampler.1]; exact hquiet)
  have hpass : d.pass cfg r n = d := by
    rw [Delivery.pass_station_of_kept hr hg (fun _ => by rw [hact]), hact]
  have hgenerator : Neighbour.generator ∈ done ++ [n] ↔ .generator ∈ done := by simp [Ne.symm hg]
  have hbehind : UpdatedBehindStart order (done ++ [n]) ↔ UpdatedBehindStart order done := by
    simp [UpdatedBehindStart, Ne.symm hr]
  rw [hpass]
  refine ⟨h.state, by simp [h.controller], h.quiet_append hquiet, ?_, h.mode, h.outputs, ?_, ?_, ?_⟩
  · simp only [hbehind]
    exact h.regulator
  · simp only [hgenerator]
    exact h.early
  · simp only [hgenerator, hbehind]
    exact h.awaited
  · simp only [hgenerator]
    exact h.taken

theorem StartedSoFar.ends (h : StartedSoFar base cfg b order done d)
    (hrange : configurationInRange cfg = true) (hdue : StartDue base r) (hn : n ∉ done)
    (hbefore : ∀ m, actsBefore order m n ↔ m ∈ done) (hstands : standsAgainst cfg base.sampler n) :
    EndedSoFar base cfg order (done ++ [n]) (d.pass cfg r n) := by
  have hr : n ≠ .regulator := by rintro rfl; simp [standsAgainst] at hstands
  have hg : n ≠ .generator := by rintro rfl; simp [standsAgainst] at hstands
  have hsampler : d.state.sampler = base.sampler ∧ d.state.classifier = base.classifier ∧
      d.state.station.destination = none := by
    rw [h.state]
    exact ⟨rfl, rfl, rfl⟩
  obtain ⟨hsampler, hclassifier, hdestination⟩ := hsampler
  have hstops := State.stationAct_of_stander_starting (x := d.state) (r := r) (n := n) hrange
    (by rw [hsampler, hdue.overcurrent]) (by rw [hsampler, hdue.overTemperature]) h.firing
    (by rw [hclassifier, hdue.classifier]) (by rw [hsampler]; exact hstands)
  have hregulator : (d.state.stationAct cfg r n).regulator = d.state.regulator := by
    rcases hstops.regulator with hkept | ⟨hdest, -⟩
    · exact hkept
    · rw [hdestination] at hdest
      exact absurd hdest (by decide)
  have hlatched : (d.state.stationAct cfg r n).gates.latched = d.state.gates.latched := by
    rw [hstops.gates]
    rfl
  have hgenerator : Neighbour.generator ∈ done ++ [n] ↔ .generator ∈ done := by simp [Ne.symm hg]
  rw [Delivery.pass_station_idle hr hg hstops.idle]
  refine ⟨hstops.idle, by rw [hstops.gates]; exact Gates.blocked_blockedGates _, by simp [h.controller], ⟨n, hstands⟩,
    fun hearly => ?_, fun hlate hnot => ?_, fun hlate hmem => ?_, fun hrest => ?_, fun hlate hall => ?_⟩
  · obtain ⟨hmem, -, -, hentry, -⟩ := h.early hearly
    exact ⟨hgenerator.mpr hmem, hlatched.trans hentry⟩
  · obtain ⟨-, hentry, -, hangle⟩ := h.awaited hlate (mt hgenerator.mpr hnot)
    show d.angle.or (d.state.stationAct cfg r n).gates.latched = _
    rw [hlatched, hangle, hentry, hregulator, h.regulator]
    split <;> rfl
  · obtain ⟨-, -, hentry, -⟩ := h.taken hlate (hgenerator.mp hmem)
    rw [hlatched, hregulator]
    exact hentry
  · have hnot : ¬ UpdatedBehindStart order done := by
      rintro ⟨hmem, hbehind⟩
      rcases hrest with hearly | ⟨m, hm, hfirst⟩
      · exact Nat.lt_asymm hbehind hearly
      · have hregulator : actsBefore order .regulator n := (hbefore _).mpr hmem
        exact h.quiet m ((hbefore m).mp (Nat.lt_trans hfirst hregulator)) hm
    rw [hregulator, h.regulator, if_neg hnot]
  · have hmem : .regulator ∈ done := (hbefore _).mp (hall n hstands)
    rw [hregulator, h.regulator, if_pos ⟨hmem, hlate⟩]

theorem EndedSoFar.pass (h : EndedSoFar base cfg order done d) (hrange : configurationInRange cfg = true)
    (hb : r.boundary = some b) (hn : n ∉ done) (hbefore : ∀ m, actsBefore order m n ↔ m ∈ done) :
    EndedSoFar base cfg order (done ++ [n]) (d.pass cfg r n) := by
  have hcontroller : Neighbour.controller ∈ done ++ [n] := by simp [h.controller]
  by_cases hr : n = .regulator
  · subst hr
    rw [Delivery.pass_regulator b hb, Delivery.regulate_of_idle h.idle.firing]
    refine ⟨h.idle, h.gates, hcontroller, h.stander, ?_, ?_, ?_, h.rest, h.updated⟩
    · simpa using h.early
    · simpa using h.awaited
    · simpa using h.taken
  · by_cases hg : n = .generator
    · subst hg
      have hlate : actsBefore order .controller .generator := (hbefore _).mpr h.controller
      have hlatched := h.awaited hlate hn
      have hstate := Delivery.generate_idle (cfg := cfg) (b := b) h.gates.mode
      have hlatch : (d.state.gates.latch d.angle).latched = d.angle.or d.state.gates.latched := by
        cases d.angle <;> rfl
      rw [Delivery.pass_generator b hb]
      refine ⟨?_, ?_, hcontroller, h.stander, fun hearly => absurd hearly (Nat.lt_asymm hlate),
        fun _ hnot => absurd (by simp) hnot, fun _ _ => ?_, ?_, ?_⟩ <;> rw [hstate]
      · exact ⟨h.idle.firing, h.idle.noStart⟩
      · exact h.gates.congr_latch _
      · exact hlatch.trans hlatched
      · exact h.rest
      · exact h.updated
    · have hidle := State.stationAct_of_idle (r := r) hrange h.idle n
      have hlatched : (d.state.stationAct cfg r n).gates.latched = d.state.gates.latched := by
        rcases hidle.gates with hgates | hgates <;> rw [hgates]
        rfl
      have hgenerator : Neighbour.generator ∈ done ++ [n] ↔ .generator ∈ done := by simp [Ne.symm hg]
      rw [Delivery.pass_station_idle hr hg hidle.idle]
      refine ⟨hidle.idle, ?_, hcontroller, h.stander, ?_, ?_, ?_, ?_, ?_⟩
      · rcases hidle.gates with hgates | hgates
        · exact hgates ▸ h.gates
        · exact hgates ▸ Gates.blocked_blockedGates _
      · simp only [hgenerator, hlatched]
        exact h.early
      · simp only [hgenerator, hlatched, hidle.regulator]
        exact h.awaited
      · simp only [hgenerator, hlatched, hidle.regulator]
        exact h.taken
      · simp only [hidle.regulator]
        exact h.rest
      · simp only [hidle.regulator]
        exact h.updated

/-- A boundary at which nothing acts against the station before the controller's turn. -/
theorem State.deliver_of_start (hrange : configurationInRange cfg = true) (hdue : StartDue base r)
    (hblocked : base.gates.Blocked) (hb : r.boundary = some b)
    (hbehind : ∀ n, standsAgainst cfg base.sampler n → actsBefore (deliveryOrder order) .controller n) :
    ∃ done d, (∀ n, n ∈ done) ∧ d.state = base.deliver cfg r order ∧
      (StartedSoFar base cfg b (deliveryOrder order) done d ∨ EndedSoFar base cfg (deliveryOrder order) done d) := by
  have hwhole := wholeOrder_deliveryOrder order
  obtain ⟨done, d, hall, hstate, hd⟩ := base.deliver_induction cfg r order
    (fun done d => WaitingSoFar base cfg done d ∨ StartedSoFar base cfg b (deliveryOrder order) done d ∨
      EndedSoFar base cfg (deliveryOrder order) done d)
    (.inl ⟨rfl, rfl, rfl, by simp, by simp⟩) (by
      intro done n d hn hbefore hd
      rcases hd with hwaiting | hstarted | hended
      · by_cases hc : n = .controller
        · subst hc
          exact .inr (.inl (hwaiting.start hrange hdue hblocked hbefore))
        · by_cases hstands : standsAgainst cfg base.sampler n
          · exact absurd ((hbefore _).mp (hbehind n hstands)) hwaiting.controller
          · exact .inl (hwaiting.pass hdue hblocked hb hc hstands)
      · refine .inr ?_
        by_cases hstands : standsAgainst cfg base.sampler n
        · exact .inr (hstarted.ends hrange hdue hn hbefore hstands)
        · by_cases hr : n = .regulator
          · subst hr
            rw [Delivery.pass_regulator b hb]
            exact .inl (hstarted.regulate hwhole hn hbefore)
          · by_cases hg : n = .generator
            · subst hg
              rw [Delivery.pass_generator b hb]
              exact .inl (hstarted.generate hn hbefore)
            · exact .inl (hstarted.station hdue hr hg (fun hc => hn (hc ▸ hstarted.controller)) hstands)
      · exact .inr (.inr (hended.pass hrange hb hn hbefore)))
  refine ⟨done, d, hall, hstate, ?_⟩
  rcases hd with hwaiting | hbehind
  · exact absurd (hall .controller) hwaiting.controller
  · exact hbehind

end

end Sys2Proof.Machine
end

section
/-! SUPPORT. The two boundary commands as a delivery to the neighbours, and O29. -/

namespace Sys2Proof.Machine

section
variable {s t base : State} {cfg : Configuration} {r : FigureReport} {order : List Neighbour}

/-- The next sector leaves the figure set and its conditions (R46, R51). -/
theorem Sampler.nextSector_frame (m : Sampler) (start : Micros) (period : Nat) (plant : PlantInputs) :
    (m.nextSector cfg start period plant).figures = m.figures ∧
      (m.nextSector cfg start period plant).overcurrent = m.overcurrent ∧
      (m.nextSector cfg start period plant).overTemperature = m.overTemperature ∧
      (m.nextSector cfg start period plant).dcLimit = m.dcLimit := by
  unfold Sampler.nextSector
  dsimp only
  (repeat' split) <;> exact ⟨rfl, rfl, rfl, rfl⟩

/-- A boundary command that has come about: the neighbours take the figure set of `base`, and the next sector begins. -/
structure DeliveredFrom (s t base : State) (cfg : Configuration) (r : FigureReport) (order : List Neighbour) :
    Prop where
  state : t = { base.deliver cfg r order with sampler := t.sampler }
  supplied : base = { s with
    tracker := base.tracker, sampler := base.sampler, allocator := suppliedAllocator s t.sampler }
  trackerState : base.tracker.state = s.tracker.state
  period : base.tracker.period = s.tracker.period
  figures : base.sampler.figures = t.sampler.figures
  overcurrent : base.sampler.overcurrent = t.sampler.overcurrent
  overTemperature : base.sampler.overTemperature = t.sampler.overTemperature
  setpoint : r.setpointBefore = s.allocator.setpoint
  overcurrentReport : r.overcurrent = tripReported t.sampler.overcurrent s.sampler.overcurrent s.station.state
  overTemperatureReport :
    r.overTemperature = tripReported t.sampler.overTemperature s.sampler.overTemperature s.station.state

theorem State.takeBoundary_delivered (k : Tracker) (m : Sampler) (boundary : Option Boundary) (start : Micros)
    (period : Nat) (plant : PlantInputs) (htracker : k.state = s.tracker.state ∧ k.period = s.tracker.period)
    (hsampler : m.overcurrent = s.sampler.overcurrent ∧ m.overTemperature = s.sampler.overTemperature) :
    DeliveredFrom s (({ s with tracker := k, sampler := m } : State).takeBoundary cfg boundary start period plant order)
      (({ s with tracker := k, sampler := m } : State).formFigureSet cfg) cfg
      (({ s with tracker := k, sampler := m } : State).figureReport cfg boundary) order := by
  generalize hx : ({ s with tracker := k, sampler := m } : State) = x
  have hdelivered : ((x.formFigureSet cfg).deliver cfg (x.figureReport cfg boundary) order).sampler =
      m.closeSector cfg := by simp [State.formFigureSet, ← hx]
  obtain ⟨hfigures, hovercurrent, hovertemperature, hdc⟩ :=
    Sampler.nextSector_frame (cfg := cfg) (m.closeSector cfg) start period plant
  have hlast : (x.takeBoundary cfg boundary start period plant order).sampler =
      (m.closeSector cfg).nextSector cfg start period plant := by
    rw [← hdelivered]
    rfl
  have hallocator : suppliedAllocator s (x.takeBoundary cfg boundary start period plant order).sampler =
      s.allocator.takeFigures (m.closeSector cfg) s.station.state := by
    unfold suppliedAllocator
    rw [hlast, hfigures, hdc]
    rfl
  constructor
  case state => rfl
  case supplied => rw [hallocator, ← hx]; rfl
  case trackerState => rw [← hx]; exact htracker.1
  case period => rw [← hx]; exact htracker.2
  case figures => rw [hlast, hfigures, ← hx]; rfl
  case overcurrent => rw [hlast, hovercurrent, ← hx]; rfl
  case overTemperature => rw [hlast, hovertemperature, ← hx]; rfl
  case setpoint => rw [← hx]; rfl
  case overcurrentReport => rw [hlast, hovercurrent, ← hx, ← hsampler.1]; rfl
  case overTemperatureReport => rw [hlast, hovertemperature, ← hx, ← hsampler.2]; rfl

/-- SECTOR_BOUNDARY that has come about (R40). -/
theorem sectorBoundary_delivered (plant : PlantInputs) (b : Boundary) (hc : s.port.config = some cfg)
    (hlocked : s.tracker.state = .locked) (hnext : s.tracker.next = some b) (hdue : (s.time - b.time).toNat < 2 ^ 31)
    (hexec : exec (.sectorBoundary plant order) s = .next t) :
    ∃ base r, r.boundary = some b ∧ DeliveredFrom s t base cfg r order := by
  have hreached : s.boundaryDue = true := by
    simp only [State.boundaryDue, hlocked, hnext, reached, atOrAfter, Option.map_some, decide_eq_true hdue]
    rfl
  have hconfigured : s.configured (fun cfg => if s.boundaryDue then s.issueBoundary cfg plant order else s) =
      (s.setTracker (s.tracker.issue cfg b s.time)).takeBoundary cfg (some b) b.time s.tracker.period plant order := by
    simp [State.configured, hc, hreached, State.issueBoundary, hnext]
  have ht : t = (s.setTracker (s.tracker.issue cfg b s.time)).takeBoundary cfg (some b) b.time s.tracker.period plant
      order := by
    rw [← hconfigured]
    exact (Host.Outcome.next.inj hexec).symm
  rw [ht]
  exact ⟨_, _, rfl, State.takeBoundary_delivered _ s.sampler _ _ _ _ ⟨rfl, rfl⟩ ⟨rfl, rfl⟩⟩

/-- FREE_RUNNING_BOUNDARY: nothing happens, or a boundary comes about (R48). -/
theorem freeRunningBoundary_delivered (plant : PlantInputs) (hc : s.port.config = some cfg)
    (hexec : exec (.freeRunningBoundary plant order) s = .next t) :
    t = s ∨ ∃ base r, r.boundary = none ∧ DeliveredFrom s t base cfg r order := by
  have ht : t = if s.freeBoundaryDue then s.freeBoundary cfg plant order else s := by
    have hconfigured : s.configured (fun cfg => if s.freeBoundaryDue then s.freeBoundary cfg plant order else s) =
        if s.freeBoundaryDue then s.freeBoundary cfg plant order else s := by simp [State.configured, hc]
    rw [← hconfigured]
    exact (Host.Outcome.next.inj hexec).symm
  rw [ht]
  split
  · unfold State.freeBoundary
    split
    · exact .inl rfl
    · exact .inr ⟨_, _, rfl, State.takeBoundary_delivered s.tracker _ _ _ _ _ ⟨rfl, rfl⟩ ⟨rfl, rfl⟩⟩
  · exact .inl rfl

/-! ### The part at the delivery and behind it -/

section
variable (h : DeliveredFrom s t base cfg r order)
include h

theorem DeliveredFrom.base_station : base.station = s.station := by rw [h.supplied]
theorem DeliveredFrom.base_classifier : base.classifier = s.classifier := by rw [h.supplied]
theorem DeliveredFrom.base_regulator : base.regulator = s.regulator := by rw [h.supplied]
theorem DeliveredFrom.base_gates : base.gates = s.gates := by rw [h.supplied]
theorem DeliveredFrom.base_allocator : base.allocator = suppliedAllocator s t.sampler := by rw [h.supplied]
theorem DeliveredFrom.station : t.station = (base.deliver cfg r order).station := by rw [h.state]
theorem DeliveredFrom.regulator : t.regulator = (base.deliver cfg r order).regulator := by rw [h.state]
theorem DeliveredFrom.gates : t.gates = (base.deliver cfg r order).gates := by rw [h.state]

theorem DeliveredFrom.reported (hs : s.station.state ≠ .tripped) :
    r.overcurrent = base.sampler.overcurrent ∧ r.overTemperature = base.sampler.overTemperature := by
  rw [h.overcurrentReport, h.overTemperatureReport, h.overcurrent, h.overTemperature]
  simp [tripReported, hs]

theorem DeliveredFrom.standsAgainst_iff (n : Neighbour) :
    standsAgainst cfg base.sampler n ↔ standsAgainst cfg t.sampler n := by
  unfold standsAgainst
  rw [h.figures, h.overcurrent, h.overTemperature]

theorem DeliveredFrom.startDue (hs : s.station.state = .syncing) (hc : s.classifier.state = .normal)
    (hlocked : s.tracker.state = .locked) (hfits : s.station.StackFits) : StartDue base r := by
  obtain ⟨hovercurrent, hovertemperature⟩ := h.reported (by simp [hs])
  exact ⟨by rw [h.base_station, hs], by rw [h.base_classifier, hc], by rw [h.trackerState, hlocked],
    by rw [h.base_station]; exact hfits, hovercurrent, hovertemperature⟩

/-- The update of a station that fires, with SP limited to the new C (R148, R154 to R156). -/
theorem DeliveredFrom.regulated (hs : s.station.state.firing = true) :
    base.regulated cfg = updatedRegulator cfg s.regulator (min s.allocator.setpoint t.sampler.figures.capability)
      t.sampler.figures.current := by
  unfold State.regulated
  rw [h.base_regulator, h.base_allocator, h.figures, Regulator.update_eq]
  unfold suppliedAllocator
  rw [if_pos hs, Nat.min_assoc, Nat.min_self]

/-- The update of a station that has just started: SP is 0 (R4, R154). -/
theorem DeliveredFrom.regulated_started :
    (startedFrom base cfg).regulated cfg =
      updatedRegulator cfg ⟨0, cfg.alphaMax, .high⟩ 0 t.sampler.figures.current := by
  have hregulated : (startedFrom base cfg).regulated cfg = updatedRegulator cfg ⟨0, cfg.alphaMax, .high⟩
      (min 0 base.sampler.figures.capability) base.sampler.figures.current := rfl
  rw [hregulated, h.figures, Nat.zero_min]

end

/-! ### A quiet grid -/

/-- Nothing happens at the controller's turn: no start is due, and no STOPPING ends (R10, R23). -/
structure Settled (cfg : Configuration) (x : State) : Prop where
  syncing : x.station.state = .syncing → x.tracker.state = .locked → x.classifier.state ≠ .normal
  stopping : x.station.state = .stopping →
    0 < x.allocator.setpoint ∨ cfg.currentZero < x.sampler.figures.current

theorem Settled.boundaryTests {x : State} (h : Settled cfg x) : x.boundaryTests cfg = x := by
  unfold State.boundaryTests
  cases hs : x.station.state
  case syncing =>
    have hno : x.startCondition = false := by
      have := h.syncing hs
      simp only [State.startCondition, Bool.and_eq_false_iff, decide_eq_false_iff_not]
      tauto
    simp [State.testStart, hno]
  case stopping =>
    have hno : x.stoppingEnded cfg = false := by
      have := h.stopping hs
      simp only [State.stoppingEnded, Bool.and_eq_false_iff, decide_eq_false_iff_not]
      omega
    simp [State.testStopping, hno]
  all_goals rfl

/-- The regulator's and the generator's turns change nothing but the two of them. -/
theorem Delivery.pass_angles {d : Delivery} {n : Neighbour} (hn : n = .regulator ∨ n = .generator) :
    (d.pass cfg r n).state =
      { d.state with regulator := (d.pass cfg r n).state.regulator, gates := (d.pass cfg r n).state.gates } := by
  cases hb : r.boundary with
  | none => rw [Delivery.pass_free hb hn]
  | some b =>
    rcases hn with rfl | rfl
    · rw [Delivery.pass_regulator b hb]
      unfold Delivery.regulate
      dsimp only
      split
      · split <;> rfl
      · rfl
    · rw [Delivery.pass_generator b hb]
      rfl

theorem State.deliver_of_quiet (hsettled : Settled cfg base) (hc : base.classifier.state = .normal)
    (hover : r.overcurrent = base.sampler.overcurrent) (htemperature : r.overTemperature = base.sampler.overTemperature)
    (hquiet : ∀ n, ¬ standsAgainst cfg base.sampler n) :
    base.deliver cfg r order = { base with
      regulator := (base.deliver cfg r order).regulator, gates := (base.deliver cfg r order).gates } := by
  obtain ⟨-, d, -, hstate, hd⟩ := base.deliver_induction cfg r order
    (fun _ d => d.state = { base with regulator := d.state.regulator, gates := d.state.gates }) rfl (by
      intro done n d _ _ hd
      have hcases : (n = .regulator ∨ n = .generator) ∨ (n ≠ .regulator ∧ n ≠ .generator) := by cases n <;> simp
      rcases hcases with hn | ⟨hr, hg⟩
      · have hpass := Delivery.pass_angles (cfg := cfg) (r := r) (d := d) hn
        generalize d.pass cfg r n = e at hpass
        rw [hd] at hpass
        exact hpass
      · have hact : d.state.stationAct cfg r n = d.state := by
          by_cases hcontroller : n = .controller
          · rw [hcontroller]
            have hsettled' : Settled cfg d.state := by
              rw [hd]
              exact ⟨hsettled.syncing, hsettled.stopping⟩
            exact hsettled'.boundaryTests
          · refine State.stationAct_of_quiet ?_ ?_ ?_ hcontroller ?_ <;> rw [hd]
            · exact hover
            · exact htemperature
            · exact hc
            · exact hquiet n
        rw [Delivery.pass_station_of_kept hr hg (fun _ => by rw [hact]), hact]
        exact hd)
  rw [← hstate]
  exact hd

end

end Sys2Proof.Machine
end

section
/-! SUPPORT. A boundary at the regulator and the generator, in every order of the neighbours: O29. -/

namespace Sys2Proof.Machine

section
variable {s t base : State} {cfg : Configuration} {r : FigureReport} {order : List Neighbour} {b : Boundary}

theorem Gates.eq_of_mode {g g' : Gates} (hmode : g.mode = g'.mode) :
    g = { g' with latched := g.latched, firings := g.firings, outputs := g.outputs } := by
  obtain ⟨mode, latched, firings, outputs⟩ := g
  cases hmode
  rfl

/-- A station that fires before and after the boundary. -/
theorem DeliveredFrom.firing_throughout (h : DeliveredFrom s t base cfg r order)
    (hrange : configurationInRange cfg = true) (hb : r.boundary = some b) (hs : s.station.state.firing = true)
    (ht : t.station.state.firing = true) :
    t.regulator = base.regulated cfg ∧
      t.gates = (s.gates.schedule cfg s.tracker.period b).latch (some (base.regulated cfg).lastAngle) := by
  rcases State.deliver_of_firing (r := r) (order := order) hrange hb (by rw [h.base_station]; exact hs) with
    ⟨-, hregulator, hgates⟩ | ⟨d, hd, hstopped⟩
  · rw [h.base_gates, h.period] at hgates
    exact ⟨h.regulator.trans hregulator, h.gates.trans hgates⟩
  · have hidle := hstopped.idle.firing
    rw [hd, ← h.station, ht] at hidle
    exact Bool.noConfusion hidle

/-- A station that stops firing at the boundary. -/
theorem DeliveredFrom.firing_stopped (h : DeliveredFrom s t base cfg r order)
    (hrange : configurationInRange cfg = true) (hb : r.boundary = some b) (hs : s.station.state.firing = true)
    (ht : t.station.state.firing = false) :
    ∃ d : Delivery, d.state = base.deliver cfg r order ∧ StoppedSoFar base cfg (deliveryOrder order) d := by
  rcases State.deliver_of_firing (r := r) (order := order) hrange hb (by rw [h.base_station]; exact hs) with
    ⟨hfiring, -, -⟩ | hstopped
  · rw [← h.station, ht] at hfiring
    exact Bool.noConfusion hfiring
  · exact hstopped

/-- A station that does not fire, and at which no start is due. -/
theorem DeliveredFrom.idle_throughout (h : DeliveredFrom s t base cfg r order)
    (hrange : configurationInRange cfg = true) (hs : s.station.state.firing = false) (hsound : s.GatesSound)
    (hno : s.station.state ≠ .syncing ∨ s.classifier.state ≠ .normal ∨ s.tracker.state ≠ .locked) :
    t.regulator = s.regulator ∧ t.gates = s.gates := by
  have hidle : Idle base := by
    refine ⟨by rw [h.base_station]; exact hs, ?_⟩
    rw [h.base_station, h.base_classifier, h.trackerState]
    tauto
  have hblocked : base.gates.Blocked := by
    rw [h.base_gates]
    exact Gates.blocked_of_sound hsound hs
  obtain ⟨hregulator, hgates⟩ := State.deliver_of_idle (r := r) (order := order) hrange hidle hblocked
  exact ⟨h.regulator.trans (hregulator.trans h.base_regulator), h.gates.trans (hgates.trans h.base_gates)⟩

/-- On a quiet grid a boundary changes nothing but the regulator and the generator (R148). -/
theorem DeliveredFrom.quiet (h : DeliveredFrom s t base cfg r order) (hc : s.classifier.state = .normal)
    (hs : s.station.state.firing = true) (hquiet : ∀ n, ¬ standsAgainst cfg t.sampler n)
    (hstopping : s.station.state = .stopping → 0 < min s.allocator.setpoint t.sampler.figures.capability ∨
      cfg.currentZero < t.sampler.figures.current) :
    t = { s with
      tracker := t.tracker, sampler := t.sampler, allocator := suppliedAllocator s t.sampler
      regulator := t.regulator, gates := t.gates } := by
  obtain ⟨hover, htemperature⟩ := h.reported (by rintro ht; rw [ht] at hs; exact Bool.noConfusion hs)
  have hsettled : Settled cfg base := by
    refine ⟨fun hsync => ?_, fun hstop => ?_⟩
    · rw [h.base_station] at hsync
      rw [hsync] at hs
      exact Bool.noConfusion hs
    · rw [h.base_station] at hstop
      rw [h.base_allocator, h.figures]
      simp only [suppliedAllocator, if_pos hs]
      exact hstopping hstop
  have hdelivered := State.deliver_of_quiet (order := order) hsettled (by rw [h.base_classifier]; exact hc) hover
    htemperature (fun n => mt (h.standsAgainst_iff n).mp (hquiet n))
  have hstate := h.state
  generalize base.deliver cfg r order = x at hdelivered hstate
  rw [hdelivered, h.supplied] at hstate
  conv_lhs => rw [hstate]
  rw [hstate]

theorem standsAgainst_iff (f : Sampler) (n : Neighbour) : standsAgainst cfg f n ↔
    (n = .classifier ∧ f.figures.voltage < cfg.voltSag) ∨ (n = .overcurrent ∧ f.overcurrent = true) ∨
      (n = .overTemperature ∧ f.overTemperature = true) := Iff.rfl

theorem not_standsAgainst {f : Sampler} (hv : cfg.voltSag ≤ f.figures.voltage) (hover : f.overcurrent = false)
    (htemperature : f.overTemperature = false) (n : Neighbour) : ¬ standsAgainst cfg f n := by
  simp [standsAgainst, hv, hover, htemperature]

/-- A start that nothing acts against. -/
theorem DeliveredFrom.started (h : DeliveredFrom s t base cfg r order) (hrange : configurationInRange cfg = true)
    (hb : r.boundary = some b) (hlocked : s.tracker.state = .locked) (hc : s.classifier.state = .normal)
    (hs : s.station.state = .syncing) (hfits : s.station.StackFits) (hsound : s.GatesSound)
    (hquiet : ∀ n, ¬ standsAgainst cfg t.sampler n) :
    ∃ done d, (∀ n, n ∈ done) ∧ d.state = base.deliver cfg r order ∧
      StartedSoFar base cfg b (deliveryOrder order) done d := by
  have hdue := h.startDue hs hc hlocked hfits
  have hblocked : base.gates.Blocked := by
    rw [h.base_gates]
    exact Gates.blocked_of_sound hsound (by rw [hs]; rfl)
  have hno : ∀ n, ¬ standsAgainst cfg base.sampler n := fun n => mt (h.standsAgainst_iff n).mp (hquiet n)
  obtain ⟨done, d, hall, hstate, hd⟩ := State.deliver_of_start (order := order) hrange hdue hblocked hb
    (fun n hn => absurd hn (hno n))
  rcases hd with hstarted | hended
  · exact ⟨done, d, hall, hstate, hstarted⟩
  · obtain ⟨m, hm⟩ := hended.stander
    exact absurd hm (hno m)

/-- The part behind a start that nothing acts against (R10, R159). -/
theorem DeliveredFrom.started_state (h : DeliveredFrom s t base cfg r order) {done : List Neighbour} {d : Delivery}
    (hstate : d.state = base.deliver cfg r order) (hd : StartedSoFar base cfg b (deliveryOrder order) done d) :
    t = { s with
      tracker := t.tracker
      sampler := t.sampler
      station := enteredStation .starting s.time
      allocator := { suppliedAllocator s t.sampler with setpoint := 0 }
      regulator := t.regulator
      gates := { s.gates with mode := .enabled, latched := t.gates.latched, firings := t.gates.firings } } := by
  have hgates : d.state.gates =
      { s.gates with mode := .enabled, latched := d.state.gates.latched, firings := d.state.gates.firings } := by
    have hmode := hd.mode
    have houtputs := hd.outputs
    rw [h.base_gates] at houtputs
    generalize d.state.gates = g at hmode houtputs
    obtain ⟨mode, latched, firings, outputs⟩ := g
    cases hmode
    cases houtputs
    rfl
  have hdelivered := hd.state
  rw [hgates] at hdelivered
  have hstate' := h.state
  rw [← hstate] at hstate'
  generalize d.state = x at hdelivered hstate'
  rw [hdelivered, h.supplied] at hstate'
  conv_lhs => rw [hstate']
  rw [hstate']
  rfl

theorem DeliveredFrom.started_regulator (h : DeliveredFrom s t base cfg r order) {done : List Neighbour} {d : Delivery}
    (hwhole : wholeOrder order = true) (hall : ∀ n, n ∈ done) (hstate : d.state = base.deliver cfg r order)
    (hd : StartedSoFar base cfg b (deliveryOrder order) done d) :
    (actsBefore order .regulator .controller → t.regulator = ⟨0, cfg.alphaMax, .high⟩) ∧
    (actsBefore order .controller .regulator →
      t.regulator = updatedRegulator cfg ⟨0, cfg.alphaMax, .high⟩ 0 t.sampler.figures.current) := by
  rw [deliveryOrder_of_whole hwhole] at hd
  rw [h.regulator, ← hstate, hd.regulator, ← h.regulated_started]
  refine ⟨fun hearly => ?_, fun hlate => ?_⟩
  · rw [if_neg fun hbehind => Nat.lt_asymm hbehind.2 hearly]
    rfl
  · rw [if_pos ⟨hall _, hlate⟩]

theorem DeliveredFrom.started_gates (h : DeliveredFrom s t base cfg r order) {done : List Neighbour} {d : Delivery}
    (hwhole : wholeOrder order = true) (hall : ∀ n, n ∈ done) (hstate : d.state = base.deliver cfg r order)
    (hd : StartedSoFar base cfg b (deliveryOrder order) done d) :
    (actsBefore order .controller .generator →
      t.gates.latched = some t.regulator.lastAngle ∧
      t.gates.firings = [⟨Fin.ofNat 6 b.sector,
        b.time + BitVec.ofNat 32 (cfg.alphaMax * s.tracker.period / 3600), b.time⟩]) ∧
    (actsBefore order .generator .controller →
      t.gates.latched = some cfg.alphaMax ∧ t.gates.firings = []) := by
  rw [deliveryOrder_of_whole hwhole] at hd
  rw [h.regulator, h.gates, ← hstate]
  refine ⟨fun hlate => ?_, fun hearly => ?_⟩
  · obtain ⟨-, -, hlatched, hfirings⟩ := hd.taken hlate (hall _)
    rw [hfirings, entryFiring, h.period]
    exact ⟨hlatched, rfl⟩
  · obtain ⟨-, -, -, hlatched, hfirings⟩ := hd.early hearly
    exact ⟨hlatched, hfirings⟩

/-- A start that a sag or a trip acts against behind the controller's turn alone (R12, R26, R165, R167). -/
theorem DeliveredFrom.ended (h : DeliveredFrom s t base cfg r order) (hrange : configurationInRange cfg = true)
    (hb : r.boundary = some b) (hlocked : s.tracker.state = .locked) (hc : s.classifier.state = .normal)
    (hs : s.station.state = .syncing) (hfits : s.station.StackFits) (hsound : s.GatesSound)
    (hwhole : wholeOrder order = true) (hstands : ∃ n, standsAgainst cfg t.sampler n)
    (hbehind : ∀ n, standsAgainst cfg t.sampler n → actsBefore order .controller n) :
    t.gates.mode = .inhibited ∧ t.gates.firings = [] ∧ (∀ g : Fin 6, t.gates.outputs[g] = none) ∧
    (actsBefore order .controller .generator → t.gates.latched = some t.regulator.lastAngle) ∧
    (actsBefore order .generator .controller → t.gates.latched = some cfg.alphaMax) ∧
    (actsBefore order .regulator .controller ∨
        (∃ n, standsAgainst cfg t.sampler n ∧ actsBefore order n .regulator) →
      t.regulator = ⟨0, cfg.alphaMax, .high⟩) ∧
    (actsBefore order .controller .regulator →
      (∀ n, standsAgainst cfg t.sampler n → actsBefore order .regulator n) →
      t.regulator = updatedRegulator cfg ⟨0, cfg.alphaMax, .high⟩ 0 t.sampler.figures.current) := by
  have hdue := h.startDue hs hc hlocked hfits
  have hblocked : base.gates.Blocked := by
    rw [h.base_gates]
    exact Gates.blocked_of_sound hsound (by rw [hs]; rfl)
  obtain ⟨done, d, hall, hstate, hd⟩ := State.deliver_of_start (order := order) hrange hdue hblocked hb
    (fun n hn => by rw [deliveryOrder_of_whole hwhole]; exact hbehind n ((h.standsAgainst_iff n).mp hn))
  rcases hd with hstarted | hended
  · obtain ⟨m, hm⟩ := hstands
    exact absurd ((h.standsAgainst_iff m).mpr hm) (hstarted.quiet m (hall m))
  · rw [deliveryOrder_of_whole hwhole] at hended
    rw [h.regulator, h.gates, ← hstate, ← h.regulated_started]
    refine ⟨hended.gates.mode, hended.gates.firings, hended.gates.output, fun hlate => hended.taken hlate (hall _),
      fun hearly => (hended.early hearly).2, fun hrest => hended.rest ?_, fun hlate hall' => hended.updated hlate ?_⟩
    · rcases hrest with hearly | ⟨n, hn, hfirst⟩
      · exact .inl hearly
      · exact .inr ⟨n, (h.standsAgainst_iff n).mpr hn, hfirst⟩
    · exact fun n hn => hall' n ((h.standsAgainst_iff n).mp hn)

end

/-- Settles O29: a boundary is a delivery to the six neighbours, and the induction over their order follows the station,
the regulator and the generator. -/
theorem boundaryUpdatesSchedulesAndStarts : Obligations.BoundaryUpdatesSchedulesAndStarts := by
  refine ⟨fun s t cfg plant order b updated hc hrange hlocked hnext hdue hsector hexec hupdated => ?_,
    fun s t cfg plant order hc hrange hexec => ?_⟩
  · obtain ⟨base, r, hb, h⟩ := sectorBoundary_delivered plant b hc hlocked hnext hdue hexec
    have hregulated (hs : s.station.state.firing = true) : base.regulated cfg = updated := by
      rw [h.regulated hs, hupdated]
    refine ⟨fun hs ht => ?_, fun hs ht => ?_, fun hs hsound hno => ?_, fun hs hn hfits hsound hwhole hstands => ⟨?_, ?_⟩,
      fun hn hv hover htemperature => ⟨fun hs hstopping => ?_, fun hs hfits hsound hwhole => ?_⟩⟩
    · obtain ⟨hregulator, hgates⟩ := h.firing_throughout hrange hb hs ht
      rw [hregulated hs] at hregulator hgates
      rw [hgates]
      refine ⟨hregulator, ?_, rfl, fun angle hmode hangle => ?_, fun hmode => ?_⟩
      · exact (s.gates.schedule_kept cfg s.tracker.period b).1
      · exact s.gates.schedule_scheduled cfg s.tracker.period angle b hmode hangle
      · rw [s.gates.schedule_of_inhibited cfg s.tracker.period b hmode]
        exact ⟨rfl, rfl⟩
    · obtain ⟨d, hd, hstopped⟩ := h.firing_stopped hrange hb hs ht
      have hregulator := hstopped.regulator
      have hfirst := hstopped.first
      have hlast := hstopped.last
      rw [h.base_station, hregulated hs] at hregulator hfirst
      rw [h.base_station] at hlast
      rw [h.base_regulator] at hregulator hlast
      rw [h.regulator, h.gates, ← hd]
      refine ⟨hstopped.gates.mode, hstopped.gates.firings, hstopped.gates.output, hregulator, fun hwhole => ?_⟩
      rw [deliveryOrder_of_whole hwhole] at hfirst hlast
      exact ⟨hfirst, hlast⟩
    · exact h.idle_throughout hrange hs hsound (by tauto)
    · rintro ⟨n, hn', hfirst⟩
      have hdue := h.startDue hs hn hlocked hfits
      have hblocked : base.gates.Blocked := by
        rw [h.base_gates]
        exact Gates.blocked_of_sound hsound (by rw [hs]; rfl)
      obtain ⟨hregulator, hgates⟩ := State.deliver_of_prevented (order := order) hrange hdue hblocked hb
        ⟨n, (h.standsAgainst_iff n).mpr hn', by rw [deliveryOrder_of_whole hwhole]; exact hfirst⟩
      exact ⟨h.regulator.trans (hregulator.trans h.base_regulator), h.gates.trans (hgates.trans h.base_gates)⟩
    · exact fun hbehind => h.ended hrange hb hlocked hn hs hfits hsound hwhole hstands hbehind
    · have hquiet := h.quiet hn hs (not_standsAgainst hv hover htemperature) hstopping
      have ht : t.station.state.firing = true := by
        rw [hquiet]
        exact hs
      obtain ⟨hregulator, hgates⟩ := h.firing_throughout hrange hb hs ht
      rw [hregulated hs] at hregulator hgates
      have hlatched : t.gates = { s.gates with
          latched := some updated.lastAngle, firings := t.gates.firings, outputs := t.gates.outputs } := by
        have hkept := Gates.eq_of_mode (g := t.gates) (g' := s.gates)
          (by rw [hgates]; exact (s.gates.schedule_kept cfg s.tracker.period b).1)
        rw [show t.gates.latched = some updated.lastAngle by rw [hgates]; rfl] at hkept
        exact hkept
      rw [← hregulator] at hlatched ⊢
      rw [← hlatched]
      exact hquiet
    · obtain ⟨done, d, hall, hstate, hd⟩ := h.started hrange hb hlocked hn hs hfits hsound
        (not_standsAgainst hv hover htemperature)
      obtain ⟨hrest, hbehind⟩ := h.started_regulator hwhole hall hstate hd
      obtain ⟨hlate, hearly⟩ := h.started_gates hwhole hall hstate hd
      exact ⟨h.started_state hstate hd, hrest, hbehind, hlate, hearly⟩
  · rcases freeRunningBoundary_delivered plant hc hexec with rfl | ⟨base, r, hb, h⟩
    · refine ⟨fun _ _ => ⟨rfl, rfl⟩, fun hs ht => ?_, fun _ _ _ => ⟨rfl, rfl⟩⟩
      rw [hs] at ht
      exact Bool.noConfusion ht
    · have hfree (hs : s.station.state.firing = true) := State.deliver_of_free (r := r) (order := order) hrange hb
        (base := base) (by rw [h.base_station]; exact hs)
      refine ⟨fun hs ht => ?_, fun hs ht => ?_, fun hs hsound hno => h.idle_throughout hrange hs hsound hno⟩
      · obtain ⟨d, hd, hfiring | hstopped⟩ := hfree hs
        · rw [h.regulator, h.gates, ← hd, hfiring.regulator, hfiring.gates]
          exact ⟨h.base_regulator, h.base_gates⟩
        · have hidle := hstopped.idle.firing
          rw [hd, ← h.station, ht] at hidle
          exact Bool.noConfusion hidle
      · obtain ⟨d, hd, hfiring | hstopped⟩ := hfree hs
        · have hfires := hfiring.firing
          rw [hd, ← h.station, ht] at hfires
          exact Bool.noConfusion hfires
        · have hregulator := hstopped.regulator
          rw [h.base_regulator, h.base_station] at hregulator
          rw [h.regulator, h.gates, ← hd, hstopped.gates, h.base_gates]
          exact ⟨rfl, hregulator⟩

end Sys2Proof.Machine
end

section
/-! SUPPORT. What a figure set does to the classifier and the station does not depend on the regulator and the generator, but
for the integrator of a record that is pushed (R13, R157). -/

namespace Sys2Proof.Machine

/-- Two parts that the classifier and the station cannot tell apart at a figure set, but by the integrator. -/
structure Alike (x y : State) : Prop where
  time : x.time = y.time
  station : x.station = y.station
  tracker : x.tracker.state = y.tracker.state
  figures : x.sampler.figures = y.sampler.figures
  classifier : x.classifier = y.classifier
  line : x.line = y.line
  allocator : x.allocator = y.allocator
  mode : x.gates.mode = y.gates.mode
  events : x.events = y.events
  fault : x.fault = y.fault

theorem Alike.refl (x : State) : Alike x x := ⟨rfl, rfl, rfl, rfl, rfl, rfl, rfl, rfl, rfl, rfl⟩

theorem Alike.symm {x y : State} (h : Alike x y) : Alike y x :=
  ⟨h.time.symm, h.station.symm, h.tracker.symm, h.figures.symm, h.classifier.symm, h.line.symm, h.allocator.symm,
    h.mode.symm, h.events.symm, h.fault.symm⟩

theorem Alike.trans {x y z : State} (h : Alike x y) (h' : Alike y z) : Alike x z :=
  ⟨h.time.trans h'.time, h.station.trans h'.station, h.tracker.trans h'.tracker, h.figures.trans h'.figures,
    h.classifier.trans h'.classifier, h.line.trans h'.line, h.allocator.trans h'.allocator, h.mode.trans h'.mode,
    h.events.trans h'.events, h.fault.trans h'.fault⟩

section
variable {x y : State} {cfg : Configuration}

theorem Alike.counted (h : Alike x y) (kinds : List EventKind) : Alike (counted x kinds) (counted y kinds) :=
  ⟨h.time, h.station, h.tracker, h.figures, h.classifier, h.line, h.allocator, h.mode,
    congrArg (fun e => kinds.foldl EventUnit.count e) h.events, h.fault⟩

theorem Alike.alertOf (h : Alike x y) (kind : AlertKind) (code shortfall : Nat) :
    alertOf x kind code shortfall = alertOf y kind code shortfall := by
  unfold Sys2Proof.Machine.alertOf
  rw [h.figures]

theorem Alike.alerted (h : Alike x y) (alert : AlertBody) : Alike (alerted x alert) (alerted y alert) := by
  unfold Sys2Proof.Machine.alerted
  rw [h.line]
  split
  · exact ⟨h.time, h.station, h.tracker, h.figures, h.classifier, by simp only [h.time], h.allocator, h.mode, h.events,
      h.fault⟩
  · exact h.counted _

theorem Alike.blockedFrom (h : Alike x y) (dest : StationState) : Alike (blockedFrom x dest) (blockedFrom y dest) :=
  ⟨h.time, congrArg (enteredStation dest) h.time, h.tracker, h.figures, h.classifier, h.line,
    by simp only [Sys2Proof.Machine.blockedFrom, h.allocator, h.station], rfl, h.events, h.fault⟩

theorem Alike.standbyFrom (h : Alike x y) (origin : StandbyOrigin) : Alike (standbyFrom x origin) (standbyFrom y origin) :=
  have hb := h.blockedFrom .standby
  ⟨hb.time, by simp only [Sys2Proof.Machine.standbyFrom, h.time], hb.tracker, hb.figures, hb.classifier, hb.line,
    hb.allocator, hb.mode, hb.events, hb.fault⟩

theorem Alike.rideFrom (h : Alike x y) (record : ContextRecord) : Alike (rideFrom x record) (rideFrom y record) := by
  unfold Sys2Proof.Machine.rideFrom
  rw [h.alertOf, h.allocator, h.figures]
  refine Alike.alerted ?_ _
  exact ⟨h.time, by simp only [h.time, h.station], h.tracker, h.figures, h.classifier, h.line, by simp only [h.station],
    h.mode, h.events, h.fault⟩

theorem Alike.blockedWith (h : Alike x y) (stack : List ContextRecord) :
    Alike (blockedWith x stack) (blockedWith y stack) := by
  have hb := h.blockedFrom .blocked
  unfold Sys2Proof.Machine.blockedWith
  rw [h.alertOf, h.allocator]
  refine Alike.alerted ?_ _
  exact ⟨hb.time, by simp only [h.time], hb.tracker, hb.figures, hb.classifier, hb.line, hb.allocator, hb.mode,
    hb.events, hb.fault⟩

theorem Alike.startedFrom (h : Alike x y) : Alike (startedFrom x cfg) (startedFrom y cfg) :=
  ⟨h.time, congrArg (enteredStation .starting) h.time, h.tracker, h.figures, h.classifier, h.line,
    by simp only [Sys2Proof.Machine.startedFrom, h.allocator], rfl, h.events, h.fault⟩

theorem Alike.restartedFrom (h : Alike x y) (top : ContextRecord) :
    Alike (restartedFrom x cfg top) (restartedFrom y cfg top) :=
  ⟨h.time, by simp only [Sys2Proof.Machine.restartedFrom, h.time, h.station], h.tracker, h.figures, h.classifier,
    h.line, by simp only [Sys2Proof.Machine.restartedFrom, h.allocator], rfl, h.events, h.fault⟩

theorem Alike.offFrom (h : Alike x y) : Alike (offFrom x cfg) (offFrom y cfg) :=
  ⟨h.time, congrArg (enteredStation .off) h.time, h.tracker, h.figures, h.classifier,
    by simp only [Sys2Proof.Machine.offFrom, h.line, h.time],
    by simp only [Sys2Proof.Machine.offFrom, h.allocator, h.station], rfl, h.events, h.fault⟩

theorem Alike.arrivedFrom (h : Alike x y) : Alike (arrivedFrom x cfg) (arrivedFrom y cfg) := by
  unfold Sys2Proof.Machine.arrivedFrom
  rw [h.station]
  split
  · exact h
  · exact h.offFrom
  · exact h.standbyFrom _

/-- The reaction to a transition, alike but for the integrator of a record (R13, R157). -/
theorem Alike.reacted (h : Alike x y) (e : ClassifierState) (setpoint : Nat)
    (hi : x.station.state = .run ∨ x.station.state = .restart → x.regulator.integrator = y.regulator.integrator) :
    Alike (reacted x cfg e setpoint) (reacted y cfg e setpoint) := by
  have hescalated : Alike (Sys2Proof.Machine.counted (Sys2Proof.Machine.alerted
      (Sys2Proof.Machine.standbyFrom x .escalation) (Sys2Proof.Machine.alertOf x .standby 8 0)) [.escalation])
      (Sys2Proof.Machine.counted (Sys2Proof.Machine.alerted
      (Sys2Proof.Machine.standbyFrom y .escalation) (Sys2Proof.Machine.alertOf y .standby 8 0)) [.escalation]) := by
    rw [h.alertOf]
    exact ((h.standbyFrom _).alerted _).counted _
  have hrestarted : Alike
      (y.station.stack.getLast?.elim x fun top => Sys2Proof.Machine.restartedFrom x cfg top)
      (y.station.stack.getLast?.elim y fun top => Sys2Proof.Machine.restartedFrom y cfg top) := by
    cases y.station.stack.getLast? with
    | none => exact h
    | some top => exact h.restartedFrom top
  unfold Sys2Proof.Machine.reacted
  dsimp only
  rw [h.station] at hi ⊢
  rw [h.classifier, h.tracker]
  cases hs : y.station.state
  case syncing =>
    cases e
    case normal =>
      dsimp only
      split
      · exact h.startedFrom
      · exact h
    all_goals exact h
  case starting =>
    cases e
    case disturbed | outside => exact h.blockedFrom _
    all_goals exact h
  case run =>
    rw [hi (.inl hs)]
    cases e
    case disturbed => exact h.rideFrom _
    case outside => exact h.blockedWith _
    all_goals exact h
  case ride =>
    cases e
    case outside => exact h.blockedWith _
    case normal => exact hrestarted
    all_goals exact h
  case blocked =>
    cases e
    case normal => exact hrestarted
    all_goals exact h
  case restart =>
    rw [hi (.inr hs)]
    cases e
    case disturbed =>
      dsimp only
      split
      · exact h.rideFrom _
      · exact hescalated
    case outside =>
      dsimp only
      split
      · exact h.blockedWith _
      · exact hescalated
    all_goals exact h
  case stopping =>
    cases e
    case outside => exact h.arrivedFrom
    all_goals exact h
  all_goals
    cases e <;> exact h

/-- The classifier's own part depends on the classifier, the time and the tracker's state alone. -/
theorem figureTaken_classifier_congr (v setpoint setpoint' : Nat) (hc : x.classifier = y.classifier)
    (ht : x.time = y.time) (hk : x.tracker.state = y.tracker.state) :
    (figureTaken x cfg v setpoint).classifier = (figureTaken y cfg v setpoint').classifier := by
  unfold figureTaken
  dsimp only
  rw [hc, hk]
  split_ifs <;> simp [onsetOf, wentOutside, Sys2Proof.Machine.counted, hc, ht]

theorem Alike.figureHeard (h : Alike x y) (v : Nat) :
    Alike (figureHeard x cfg v) (figureHeard y cfg v) := by
  have hkinds := h.counted (figureKinds y.classifier cfg v)
  unfold Sys2Proof.Machine.figureHeard
  rw [h.classifier]
  exact ⟨hkinds.time, hkinds.station, hkinds.tracker, hkinds.figures,
    figureTaken_classifier_congr v 0 0 h.classifier h.time h.tracker, hkinds.line, hkinds.allocator, hkinds.mode,
    hkinds.events, hkinds.fault⟩

/-- A figure set is taken alike, but for the integrator of a record (R13, R157). -/
theorem Alike.figureTaken (h : Alike x y) (v setpoint : Nat)
    (hi : x.station.state = .run ∨ x.station.state = .restart → x.regulator.integrator = y.regulator.integrator) :
    Alike (figureTaken x cfg v setpoint) (figureTaken y cfg v setpoint) := by
  rw [figureTaken_eq, figureTaken_eq, h.classifier]
  cases figureEntered y.classifier cfg v with
  | none => exact h.figureHeard v
  | some e => exact (h.figureHeard v).reacted e setpoint hi

end

end Sys2Proof.Machine
end

section
/-! SUPPORT. A figure set without a trip at the classifier and the controller, in every order of the neighbours. -/

namespace Sys2Proof.Machine

section
variable {base x : State} {cfg : Configuration} {r : FigureReport} {order done : List Neighbour} {d : Delivery}
  {n : Neighbour}

/-- The classifier and the station do not see the regulator's and the generator's turns. -/
theorem Alike.pass_angles (hn : n = .regulator ∨ n = .generator) : Alike (d.pass cfg r n).state d.state := by
  have hmode : (d.pass cfg r n).state.gates.mode = d.state.gates.mode := by
    have hlatch (g : Gates) (angle : Option Nat) : (g.latch angle).mode = g.mode := by
      unfold Gates.latch
      split <;> rfl
    cases hb : r.boundary with
    | none => rw [Delivery.pass_free hb hn]
    | some b =>
      rcases hn with rfl | rfl
      · rw [Delivery.pass_regulator b hb]
        unfold Delivery.regulate
        dsimp only
        split
        · split
          · rfl
          · exact hlatch _ _
          · rfl
        · rfl
      · rw [Delivery.pass_generator b hb]
        exact (hlatch _ _).trans (Gates.schedule_kept _ _ _ _).1
  have hpass := Delivery.pass_angles (cfg := cfg) (r := r) (d := d) hn
  generalize d.pass cfg r n = e at hpass hmode
  rw [hpass]
  exact ⟨rfl, rfl, rfl, rfl, rfl, rfl, rfl, hmode, rfl, rfl⟩

theorem Delivery.pass_station_state (hr : n ≠ .regulator) (hg : n ≠ .generator) :
    (d.pass cfg r n).state = d.state.stationAct cfg r n := by
  rw [Delivery.pass_station hr hg, Delivery.noteRelease_state]

/-- No trip is reported with the figure set. -/
abbrev FigureReport.Quiet (r : FigureReport) : Prop := r.overcurrent = false ∧ r.overTemperature = false

theorem State.stationAct_of_noTrip (hquiet : r.Quiet) (hc : n ≠ .classifier) (hk : n ≠ .controller) :
    x.stationAct cfg r n = x := by
  obtain ⟨hover, htemperature⟩ := hquiet
  cases n
  case classifier => exact absurd rfl hc
  case controller => exact absurd rfl hk
  case overcurrent => simp [State.stationAct, hover]
  case overTemperature => simp [State.stationAct, htemperature]
  case regulator | generator => rfl

/-- Without a trip report only the classifier and the controller act on the station. -/
theorem Alike.pass_other (hquiet : r.Quiet) (hc : n ≠ .classifier) (hk : n ≠ .controller) :
    Alike (d.pass cfg r n).state d.state := by
  by_cases hn : n = .regulator ∨ n = .generator
  · exact Alike.pass_angles hn
  · rw [Delivery.pass_station_state (fun h => hn (.inl h)) (fun h => hn (.inr h)),
      State.stationAct_of_noTrip hquiet hc hk]
    exact Alike.refl _

/-! ### The classifier and the controller in turn -/

/-- How far the classifier and the controller are with a figure set that reports no trip. -/
inductive InTurn (base : State) (cfg : Configuration) (r : FigureReport) (order done : List Neighbour) (x : State) : Prop
  | neither (hc : .classifier ∉ done) (hk : .controller ∉ done) (h : Alike x base)
  | classified (hc : .classifier ∈ done) (hk : .controller ∉ done) (y : State) (hy : Alike y base)
      (h : Alike x (y.stationAct cfg r .classifier))
  | tested (hc : .classifier ∉ done) (hk : .controller ∈ done) (y : State) (hy : Alike y base)
      (h : Alike x (y.stationAct cfg r .controller))
  | classifiedFirst (hc : .classifier ∈ done) (hk : .controller ∈ done)
      (hfirst : actsBefore order .classifier .controller) (y z : State) (hy : Alike y base)
      (hz : Alike z (y.stationAct cfg r .classifier)) (h : Alike x (z.stationAct cfg r .controller))
  | testedFirst (hc : .classifier ∈ done) (hk : .controller ∈ done)
      (hfirst : actsBefore order .controller .classifier) (y z : State) (hy : Alike y base)
      (hz : Alike z (y.stationAct cfg r .controller)) (h : Alike x (z.stationAct cfg r .classifier))

theorem InTurn.pass (h : InTurn base cfg r order done d.state) (hquiet : r.Quiet) (hn : n ∉ done)
    (hbefore : ∀ m, actsBefore order m n ↔ m ∈ done) :
    InTurn base cfg r order (done ++ [n]) (d.pass cfg r n).state := by
  by_cases hclassifier : n = .classifier
  · subst hclassifier
    rw [Delivery.pass_station_state (by decide) (by decide)]
    cases h with
    | neither hc hk h => exact .classified (by simp) (by simp [hk]) d.state h (Alike.refl _)
    | tested hc hk y hy h =>
      exact .testedFirst (by simp) (by simp [hk]) ((hbefore _).mpr hk) y d.state hy h (Alike.refl _)
    | classified hc => exact absurd hc hn
    | classifiedFirst hc => exact absurd hc hn
    | testedFirst hc => exact absurd hc hn
  · by_cases hcontroller : n = .controller
    · subst hcontroller
      rw [Delivery.pass_station_state (by decide) (by decide)]
      cases h with
      | neither hc hk h => exact .tested (by simp [hc]) (by simp) d.state h (Alike.refl _)
      | classified hc hk y hy h =>
        exact .classifiedFirst (by simp [hc]) (by simp) ((hbefore _).mpr hc) y d.state hy h (Alike.refl _)
      | tested hc hk => exact absurd hk hn
      | classifiedFirst hc hk => exact absurd hk hn
      | testedFirst hc hk => exact absurd hk hn
    · have hpass : Alike (d.pass cfg r n).state d.state := Alike.pass_other hquiet hclassifier hcontroller
      have hc : Neighbour.classifier ∈ done ++ [n] ↔ .classifier ∈ done := by simp [Ne.symm hclassifier]
      have hk : Neighbour.controller ∈ done ++ [n] ↔ .controller ∈ done := by simp [Ne.symm hcontroller]
      cases h with
      | neither hc' hk' h => exact .neither (mt hc.mp hc') (mt hk.mp hk') (hpass.trans h)
      | classified hc' hk' y hy h => exact .classified (hc.mpr hc') (mt hk.mp hk') y hy (hpass.trans h)
      | tested hc' hk' y hy h => exact .tested (mt hc.mp hc') (hk.mpr hk') y hy (hpass.trans h)
      | classifiedFirst hc' hk' hfirst y z hy hz h =>
        exact .classifiedFirst (hc.mpr hc') (hk.mpr hk') hfirst y z hy hz (hpass.trans h)
      | testedFirst hc' hk' hfirst y z hy hz h =>
        exact .testedFirst (hc.mpr hc') (hk.mpr hk') hfirst y z hy hz (hpass.trans h)

/-- A figure set without a trip: the classifier and the controller act on the station, one after the other. -/
theorem State.deliver_in_turn (hquiet : r.Quiet) :
    ∃ y z, Alike y base ∧
      ((actsBefore (deliveryOrder order) .classifier .controller ∧ Alike z (y.stationAct cfg r .classifier) ∧
          Alike (base.deliver cfg r order) (z.stationAct cfg r .controller)) ∨
        (actsBefore (deliveryOrder order) .controller .classifier ∧ Alike z (y.stationAct cfg r .controller) ∧
          Alike (base.deliver cfg r order) (z.stationAct cfg r .classifier))) := by
  obtain ⟨done, d, hall, hstate, hd⟩ := base.deliver_induction cfg r order
    (fun done d => InTurn base cfg r (deliveryOrder order) done d.state)
    (.neither (by simp) (by simp) (Alike.refl _)) (fun _ _ _ hn hbefore h => h.pass hquiet hn hbefore)
  rw [hstate] at hd
  cases hd with
  | neither hc => exact absurd (hall _) hc
  | classified hc hk => exact absurd (hall _) hk
  | tested hc => exact absurd (hall _) hc
  | classifiedFirst _ _ hfirst y z hy hz h => exact ⟨y, z, hy, .inl ⟨hfirst, hz, h⟩⟩
  | testedFirst _ _ hfirst y z hy hz h => exact ⟨y, z, hy, .inr ⟨hfirst, hz, h⟩⟩

/-! ### A station at which the controller's turn changes nothing -/

theorem Alike.settled {y : State} (h : Alike x y) (hy : Settled cfg y) : Settled cfg x := by
  refine ⟨?_, ?_⟩
  · rw [h.station, h.tracker, h.classifier]
    exact hy.syncing
  · rw [h.station, h.allocator, h.figures]
    exact hy.stopping

/-- A reaction to a disturbance that leaves the station in STOPPING has changed nothing. -/
theorem State.reactTo_stopping (e : ClassifierState) (setpoint : Nat) (he : e = .disturbed ∨ e = .outside)
    (h : (x.reactTo cfg ⟨e, true⟩ setpoint).station.state = .stopping) : x.reactTo cfg ⟨e, true⟩ setpoint = x := by
  revert h
  unfold State.reactTo
  cases hs : x.station.state
  case syncing =>
    rcases he with rfl | rfl <;> dsimp only <;> unfold State.testStart <;> split <;> simp
  case starting => rcases he with rfl | rfl <;> simp
  case run => rcases he with rfl | rfl <;> simp [State.rideOut, State.enterBlocked]
  case ride => rcases he with rfl | rfl <;> simp [State.enterBlocked]
  case blocked => rcases he with rfl | rfl <;> simp
  case restart =>
    rcases he with rfl | rfl <;> dsimp only <;> split <;>
      simp [State.rideOut, State.enterBlocked, State.escalate, State.enterStandby, State.emptyStack]
  case stopping =>
    rcases he with rfl | rfl
    · simp
    · dsimp only
      unfold State.enterDestination
      split <;> simp [State.enterStandby, State.emptyStack]
  all_goals rcases he with rfl | rfl <;> simp

theorem Settled.classified (h : Settled cfg x) (hrange : configurationInRange cfg = true) :
    Settled cfg (x.stationAct cfg r .classifier) := by
  have hheard : Settled cfg (figureHeard x cfg x.sampler.figures.voltage) :=
    ⟨fun hsync hlocked hnormal => h.syncing hsync hlocked (figureHeard_normal _ hnormal).1, h.stopping⟩
  show Settled cfg (x.classifyFigure cfg x.sampler.figures.voltage r.setpointBefore)
  rw [State.classifyFigure_eq _ _ hrange]
  cases hentered : figureEntered x.classifier cfg x.sampler.figures.voltage with
  | none => exact hheard
  | some e =>
    have he := figureEntered_ne_normal _ hentered
    have hstate := figureHeard_state_of_some (s := x) _ hentered
    refine ⟨fun _ _ => ?_, fun hstop => ?_⟩
    · rw [Option.elim_some, (State.reactTo_frame _ _ _ _).2.2.2.2.1, hstate]
      rcases he with rfl | rfl <;> decide
    · rw [Option.elim_some] at hstop ⊢
      have heq := State.reactTo_stopping e _ he hstop
      rw [heq] at hstop ⊢
      exact hheard.stopping hstop

/-- How far a figure set is whose only effect on the station is the classifier's. -/
structure SettledSoFar (base : State) (cfg : Configuration) (r : FigureReport) (order done : List Neighbour)
    (x : State) : Prop where
  before : .classifier ∉ done → Alike x base ∧ (r.boundary = none ∨ .regulator ∉ done → x.regulator = base.regulator)
  behind : .classifier ∈ done → ∃ y, Alike y base ∧ Alike x (y.stationAct cfg r .classifier) ∧
    (r.boundary = none ∨ ¬ actsBefore order .regulator .classifier → y.regulator = base.regulator) ∧
    (r.boundary ≠ none → actsBefore order .regulator .classifier →
      x.regulator = (y.stationAct cfg r .classifier).regulator)

theorem SettledSoFar.settled (h : SettledSoFar base cfg r order done x) (hbase : Settled cfg base)
    (hrange : configurationInRange cfg = true) : Settled cfg x := by
  by_cases hc : .classifier ∈ done
  · obtain ⟨y, hy, hx, -, -⟩ := h.behind hc
    exact hx.settled ((hy.settled hbase).classified hrange)
  · exact (h.before hc).1.settled hbase

/-- A neighbour other than the classifier and the regulator keeps the regulator here. -/
theorem Delivery.pass_regulator_kept (hsettled : Settled cfg d.state) (hquiet : r.Quiet) (hc : n ≠ .classifier)
    (hr : n ≠ .regulator ∨ r.boundary = none) :
    (d.pass cfg r n).state.regulator = d.state.regulator ∧ Alike (d.pass cfg r n).state d.state := by
  by_cases hangles : n = .regulator ∨ n = .generator
  · refine ⟨?_, Alike.pass_angles hangles⟩
    cases hb : r.boundary with
    | none => rw [Delivery.pass_free hb hangles]
    | some b =>
      rcases hangles with hn | hn
      · rw [hb] at hr
        exact absurd hn (hr.resolve_right (by simp))
      · rw [hn, Delivery.pass_generator b hb]
        rfl
  · have hact : d.state.stationAct cfg r n = d.state := by
      by_cases hk : n = .controller
      · rw [hk]
        exact hsettled.boundaryTests
      · exact State.stationAct_of_noTrip hquiet hc hk
    rw [Delivery.pass_station_state (fun h => hangles (.inl h)) (fun h => hangles (.inr h)), hact]
    exact ⟨rfl, Alike.refl _⟩

theorem SettledSoFar.pass (h : SettledSoFar base cfg r order done d.state) (hbase : Settled cfg base)
    (hrange : configurationInRange cfg = true) (hquiet : r.Quiet) (hn : n ∉ done)
    (hbefore : ∀ m, actsBefore order m n ↔ m ∈ done) :
    SettledSoFar base cfg r order (done ++ [n]) (d.pass cfg r n).state := by
  have hsettled := h.settled hbase hrange
  by_cases hclassifier : n = .classifier
  · subst hclassifier
    obtain ⟨halike, hregulator⟩ := h.before hn
    rw [Delivery.pass_station_state (by decide) (by decide)]
    refine ⟨fun hnot => absurd (by simp) hnot, fun _ => ⟨d.state, halike, Alike.refl _, ?_, fun _ _ => rfl⟩⟩
    rw [hbefore]
    exact hregulator
  · have hc : Neighbour.classifier ∈ done ++ [n] ↔ .classifier ∈ done := by simp [Ne.symm hclassifier]
    have halike : Alike (d.pass cfg r n).state d.state := by
      by_cases hk : n = .controller
      · exact (Delivery.pass_regulator_kept hsettled hquiet hclassifier (.inl (by rw [hk]; decide))).2
      · exact Alike.pass_other hquiet hclassifier hk
    refine ⟨fun hnot => ?_, fun hin => ?_⟩
    · obtain ⟨hbaseAlike, hregulator⟩ := h.before (mt hc.mpr hnot)
      refine ⟨halike.trans hbaseAlike, fun hkept => ?_⟩
      have hr : n ≠ .regulator ∨ r.boundary = none := by
        rcases hkept with hnone | hout
        · exact .inr hnone
        · exact .inl fun hregulator => hout (by simp [hregulator])
      have hkept' : r.boundary = none ∨ .regulator ∉ done :=
        hkept.imp id fun hout hin => hout (List.mem_append_left _ hin)
      exact (Delivery.pass_regulator_kept hsettled hquiet hclassifier hr).1.trans (hregulator hkept')
    · obtain ⟨y, hy, hx, hfirst, hlast⟩ := h.behind (hc.mp hin)
      refine ⟨y, hy, halike.trans hx, hfirst, fun hb hearly => ?_⟩
      have hr : n ≠ .regulator := by
        rintro rfl
        exact Nat.lt_asymm hearly ((hbefore _).mpr (hc.mp hin))
      exact (Delivery.pass_regulator_kept hsettled hquiet hclassifier (.inl hr)).1.trans (hlast hb hearly)

/-- A figure set without a trip at a station that neither starts nor ends its STOPPING by it. -/
theorem State.deliver_of_settled (hbase : Settled cfg base) (hrange : configurationInRange cfg = true)
    (hquiet : r.Quiet) :
    ∃ y, Alike y base ∧ Alike (base.deliver cfg r order) (y.stationAct cfg r .classifier) ∧
      (r.boundary = none ∨ ¬ actsBefore (deliveryOrder order) .regulator .classifier → y.regulator = base.regulator) ∧
      (r.boundary ≠ none → actsBefore (deliveryOrder order) .regulator .classifier →
        (base.deliver cfg r order).regulator = (y.stationAct cfg r .classifier).regulator) := by
  obtain ⟨done, d, hall, hstate, hd⟩ := base.deliver_induction cfg r order
    (fun done d => SettledSoFar base cfg r (deliveryOrder order) done d.state)
    ⟨fun _ => ⟨Alike.refl _, fun _ => rfl⟩, fun h => absurd h (by simp)⟩
    (fun _ _ _ hn hbefore h => h.pass hbase hrange hquiet hn hbefore)
  rw [hstate] at hd
  exact hd.behind (hall _)

end

end Sys2Proof.Machine
end

section
/-! SUPPORT. A boundary that comes about as a delivery, the classifier behind it whatever the station does, and the station
in TRIPPED (R56 to R58, R66, R70, R71, R73, R74, R181). -/

namespace Sys2Proof.Machine

section
variable {s t u base x y : State} {cfg : Configuration} {r : FigureReport} {order done : List Neighbour} {d : Delivery}
  {n : Neighbour} {c : Instr} {tracked : Bool}

/-- A boundary of either timing mode that comes about is delivered to the neighbours (R40, R48). -/
theorem boundaryComes_delivered (hc : s.port.config = some cfg) (hcomes : boundaryComes s c order tracked)
    (hexec : exec c s = .next t) :
    ∃ base r, (r.boundary = none ↔ tracked = false) ∧ DeliveredFrom s t base cfg r order := by
  rcases hcomes with ⟨htracked, plant, b, hinstr, hlocked, hnext, hdue⟩ | ⟨htracked, plant, due, hinstr, hmode, htimer, hdue⟩
  · rw [hinstr] at hexec
    obtain ⟨base, r, hb, hdelivered⟩ := sectorBoundary_delivered plant b hc hlocked hnext hdue hexec
    exact ⟨base, r, by simp [hb, htracked], hdelivered⟩
  · have hreached : s.freeBoundaryDue = true := by
      simp only [State.freeBoundaryDue, hmode, htimer, reached, atOrAfter, decide_eq_true hdue]
      rfl
    have hconfigured : s.configured (fun cfg => if s.freeBoundaryDue then s.freeBoundary cfg plant order else s) =
        s.freeBoundary cfg plant order := by simp [State.configured, hc, hreached]
    have ht : t = s.freeBoundary cfg plant order := by
      rw [hinstr] at hexec
      rw [← hconfigured]
      exact (Host.Outcome.next.inj hexec).symm
    rw [ht]
    unfold State.freeBoundary
    rw [htimer]
    exact ⟨_, _, ⟨fun _ => htracked, fun _ => rfl⟩, State.takeBoundary_delivered s.tracker _ _ _ _ _ ⟨rfl, rfl⟩ ⟨rfl, rfl⟩⟩

/-- The part of the statement, before the classifier and the station act on it. -/
theorem DeliveredFrom.alike (h : DeliveredFrom s t base cfg r order)
    (hu : u = { s with sampler := t.sampler, allocator := suppliedAllocator s t.sampler }) : Alike u base := by
  have hsupplied := h.supplied
  have htracker := h.trackerState
  have hfigures := h.figures
  generalize base.tracker = k at hsupplied htracker
  generalize base.sampler = m at hsupplied hfigures
  rw [hu, hsupplied]
  exact ⟨rfl, rfl, htracker.symm, hfigures.symm, rfl, rfl, rfl, rfl, rfl, rfl⟩

/-- The part behind the boundary is, for the station and the classifier, the part behind the neighbours. -/
theorem DeliveredFrom.alike_behind (h : DeliveredFrom s t base cfg r order) : Alike t (base.deliver cfg r order) := by
  have hsampler : (base.deliver cfg r order).sampler = base.sampler := (State.deliver_frame _ _ _ _).2.2.2.1
  have hstate := h.state
  have hfigures : t.sampler.figures = (base.deliver cfg r order).sampler.figures := by rw [hsampler, h.figures]
  generalize t.sampler = m at hstate hfigures
  rw [hstate]
  exact ⟨rfl, rfl, rfl, hfigures, rfl, rfl, rfl, rfl, rfl, rfl⟩

/-! ### The classifier, whatever the station does -/

/-- The classifier's turn is its own part, and the station's reaction leaves it. -/
theorem State.stationAct_classifier_own (h : configurationInRange cfg = true) :
    (x.stationAct cfg r .classifier).classifier = (figureHeard x cfg x.sampler.figures.voltage).classifier := by
  show (x.classifyFigure cfg x.sampler.figures.voltage r.setpointBefore).classifier = _
  rw [State.classifyFigure_eq _ _ h]
  cases figureEntered x.classifier cfg x.sampler.figures.voltage with
  | none => rfl
  | some e => simp

/-- The other neighbours leave the classifier. -/
theorem State.stationAct_classifier_kept (hn : n ≠ .classifier) :
    (x.stationAct cfg r n).classifier = x.classifier := by
  cases n
  case classifier => exact absurd rfl hn
  case regulator | generator => rfl
  case controller => simp [State.stationAct]
  all_goals
    simp only [State.stationAct]
    split <;> simp

/-- How far the classifier is with a figure set. -/
structure ClassifierSoFar (base : State) (cfg : Configuration) (done : List Neighbour) (x : State) : Prop where
  time : x.time = base.time
  tracker : x.tracker = base.tracker
  sampler : x.sampler = base.sampler
  classifier : x.classifier = if .classifier ∈ done then
    (figureTaken base cfg base.sampler.figures.voltage 0).classifier else base.classifier

theorem ClassifierSoFar.pass (h : ClassifierSoFar base cfg done d.state) (hrange : configurationInRange cfg = true)
    (hn : n ∉ done) : ClassifierSoFar base cfg (done ++ [n]) (d.pass cfg r n).state := by
  obtain ⟨-, htime, htracker, hsampler, -⟩ := Delivery.pass_frame cfg r d n
  refine ⟨htime.trans h.time, htracker.trans h.tracker, hsampler.trans h.sampler, ?_⟩
  by_cases hc : n = .classifier
  · subst hc
    rw [Delivery.pass_station_state (by decide) (by decide), State.stationAct_classifier_own hrange,
      if_pos (by simp), h.sampler]
    refine figureTaken_classifier_congr _ _ _ ?_ h.time (by rw [h.tracker])
    rw [h.classifier, if_neg hn]
  · have hmem : Neighbour.classifier ∈ done ++ [n] ↔ .classifier ∈ done := by simp [Ne.symm hc]
    have hkept : (d.pass cfg r n).state.classifier = d.state.classifier := by
      by_cases hangles : n = .regulator ∨ n = .generator
      · exact (Alike.pass_angles hangles).classifier
      · rw [Delivery.pass_station_state (fun h => hangles (.inl h)) (fun h => hangles (.inr h)),
          State.stationAct_classifier_kept hc]
    simp only [hmem]
    exact hkept.trans h.classifier

/-- The classifier takes a figure set in every order of the neighbours alike (R66, R70, R71, R73, R74). -/
theorem State.deliver_classifier (hrange : configurationInRange cfg = true) :
    (base.deliver cfg r order).classifier = (figureTaken base cfg base.sampler.figures.voltage 0).classifier := by
  obtain ⟨done, d, hall, hstate, hd⟩ := base.deliver_induction cfg r order
    (fun done d => ClassifierSoFar base cfg done d.state) ⟨rfl, rfl, rfl, rfl⟩
    (fun _ _ _ hn _ h => h.pass hrange hn)
  rw [← hstate, hd.classifier, if_pos (hall _)]

/-! ### A station in TRIPPED -/

/-- Whether a figure set reports a trip to the neighbour (R57, R58). -/
def FigureReport.trips (r : FigureReport) : Neighbour → Bool
  | .overcurrent => r.overcurrent
  | .overTemperature => r.overTemperature
  | .classifier | .controller | .regulator | .generator => false

/-- The trip cause that a neighbour takes (R26). -/
def tripCauseOf : Neighbour → TripCause
  | .overcurrent => .dcOvercurrent
  | .overTemperature | .classifier | .controller | .regulator | .generator => .overTemperature

theorem State.stationAct_of_trips (h : r.trips n = true) : x.stationAct cfg r n = x.trip cfg (tripCauseOf n) := by
  cases n <;> simp_all [State.stationAct, FigureReport.trips, tripCauseOf]

theorem State.stationAct_of_not_trips (hc : n ≠ .classifier) (hk : n ≠ .controller) (h : r.trips n = false) :
    x.stationAct cfg r n = x := by
  cases n <;> simp_all [State.stationAct, FigureReport.trips]

theorem FigureReport.trips_ne (h : r.trips n = true) :
    n ≠ .classifier ∧ n ≠ .controller ∧ n ≠ .regulator ∧ n ≠ .generator := by
  cases n <;> simp_all [FigureReport.trips]

theorem Settled.of_tripped (hs : x.station.state = .tripped) : Settled cfg x :=
  ⟨fun h => by simp [hs] at h, fun h => by simp [hs] at h⟩

/-- In TRIPPED the classifier only counts its events. -/
theorem State.stationAct_classifier_of_tripped (hrange : configurationInRange cfg = true) (hs : x.station.state = .tripped) :
    x.stationAct cfg r .classifier = figureHeard x cfg x.sampler.figures.voltage := by
  show x.classifyFigure cfg x.sampler.figures.voltage r.setpointBefore = _
  rw [State.classifyFigure_eq _ _ hrange]
  cases hentered : figureEntered x.classifier cfg x.sampler.figures.voltage with
  | none => rfl
  | some e =>
    refine State.reactTo_of_idle (x := figureHeard x cfg x.sampler.figures.voltage) ?_ e _
      (figureEntered_ne_normal _ hentered) (figureHeard_state_of_some _ hentered)
    show x.station.state.firing = false
    rw [hs]
    rfl

/-- A neighbour's turn at a station in TRIPPED: only the classifier's events and the later-trip count change (R181). -/
structure KeepsTripped (cfg : Configuration) (x y : State) (again : Bool) : Prop where
  sampler : y.sampler = x.sampler
  station : y.station = x.station
  allocator : y.allocator = x.allocator
  line : y.line = x.line
  blocked : x.gates.Blocked → y.gates.Blocked
  fault : y.fault = if again then x.fault.laterTrip else x.fault
  events : ∃ kinds : List EventKind, .trip ∉ kinds ∧ y.events = kinds.foldl EventUnit.count x.events
  quiet : x.classifier.state = .normal → cfg.voltSag ≤ x.sampler.figures.voltage →
    y.classifier = x.classifier ∧ y.events = x.events

theorem KeepsTripped.refl : KeepsTripped cfg x x false :=
  ⟨rfl, rfl, rfl, rfl, id, rfl, ⟨[], by simp, rfl⟩, fun _ _ => ⟨rfl, rfl⟩⟩

/-- The model's later trip and the statements' one. -/
theorem trippedAgain_eq (x : State) : trippedAgain x = { x with fault := x.fault.laterTrip } := rfl

theorem trip_not_mem_figureKinds (c : Classifier) (v : Nat) : .trip ∉ figureKinds c cfg v := by
  unfold figureKinds
  cases figureEntered c cfg v with
  | none => simp
  | some e =>
    rw [Option.elim_some]
    split_ifs <;> simp

theorem State.stationAct_of_tripped (hrange : configurationInRange cfg = true) (hs : x.station.state = .tripped) :
    KeepsTripped cfg x (x.stationAct cfg r n) (r.trips n) := by
  by_cases htrips : r.trips n = true
  · rw [State.stationAct_of_trips htrips, State.trip_of_tripped _ hs, trippedAgain_eq, htrips]
    exact ⟨rfl, rfl, rfl, rfl, id, rfl, ⟨[], by simp, rfl⟩, fun _ _ => ⟨rfl, rfl⟩⟩
  · rw [Bool.not_eq_true] at htrips
    rw [htrips]
    by_cases hc : n = .classifier
    · rw [hc, State.stationAct_classifier_of_tripped hrange hs]
      refine ⟨rfl, rfl, rfl, rfl, id, rfl, ⟨_, trip_not_mem_figureKinds x.classifier _, rfl⟩, fun hnormal hv => ?_⟩
      rw [(figureHeard_eq_self (.inr ⟨hnormal, hv⟩)).1]
      exact ⟨rfl, rfl⟩
    · have hact : x.stationAct cfg r n = x := by
        by_cases hk : n = .controller
        · rw [hk]
          exact (Settled.of_tripped hs).boundaryTests
        · exact State.stationAct_of_not_trips hc hk htrips
      rw [hact]
      exact KeepsTripped.refl

/-- The regulator and the generator keep blocked gates blocked (R161, R165). -/
theorem Delivery.pass_angles_blocked (hn : n = .regulator ∨ n = .generator) (hs : d.state.station.state.firing = false)
    (hblocked : d.state.gates.Blocked) : (d.pass cfg r n).state.gates.Blocked := by
  cases hb : r.boundary with
  | none =>
    rw [Delivery.pass_free hb hn]
    exact hblocked
  | some b =>
    rcases hn with rfl | rfl
    · rw [Delivery.pass_regulator b hb, Delivery.regulate_of_idle hs]
      exact hblocked
    · rw [Delivery.pass_generator b hb, Delivery.generate_idle hblocked.mode]
      exact hblocked.congr_latch _

theorem Delivery.pass_of_tripped (hrange : configurationInRange cfg = true) (hs : d.state.station.state = .tripped)
    (n : Neighbour) : KeepsTripped cfg d.state (d.pass cfg r n).state (r.trips n) := by
  by_cases hangles : n = .regulator ∨ n = .generator
  · have hnone : r.trips n = false := by rcases hangles with rfl | rfl <;> rfl
    have halike : Alike (d.pass cfg r n).state d.state := Alike.pass_angles hangles
    obtain ⟨-, -, -, hsampler, -⟩ := Delivery.pass_frame cfg r d n
    rw [hnone]
    exact ⟨hsampler, halike.station, halike.allocator, halike.line,
      Delivery.pass_angles_blocked hangles (by rw [hs]; rfl), halike.fault, ⟨[], by simp, halike.events⟩,
      fun _ _ => ⟨halike.classifier, halike.events⟩⟩
  · rw [Delivery.pass_station_state (fun h => hangles (.inl h)) (fun h => hangles (.inr h))]
    exact State.stationAct_of_tripped hrange hs

/-- The later trips that a figure set reports to the neighbours so far. -/
def laterTripsSoFar (r : FigureReport) (done : List Neighbour) : Nat :=
  (if r.overcurrent = true ∧ .overcurrent ∈ done then 1 else 0) +
    (if r.overTemperature = true ∧ .overTemperature ∈ done then 1 else 0)

theorem laterTripsSoFar_append (hn : n ∉ done) :
    laterTripsSoFar r (done ++ [n]) = laterTripsSoFar r done + if r.trips n = true then 1 else 0 := by
  unfold laterTripsSoFar
  cases n
  case overcurrent => cases h : r.overcurrent <;> simp [FigureReport.trips, h, hn, Nat.add_comm]
  case overTemperature => cases h : r.overTemperature <;> simp [FigureReport.trips, h, hn]
  all_goals simp [FigureReport.trips]

/-- A figure set at a station in TRIPPED raises the later-trip count alone (R181). -/
theorem State.deliver_of_tripped (hrange : configurationInRange cfg = true) (hs : base.station.state = .tripped)
    (hlater : base.fault.laterTrips ≤ 255) :
    (base.deliver cfg r order).station = base.station ∧
      (base.deliver cfg r order).fault = { base.fault with
        laterTrips := min 255 (base.fault.laterTrips + ((if r.overcurrent = true then 1 else 0) +
          (if r.overTemperature = true then 1 else 0))) } := by
  obtain ⟨done, d, hall, hstate, hstation, hfault⟩ := base.deliver_induction cfg r order
    (fun done d => d.state.station = base.station ∧ d.state.fault = { base.fault with
      laterTrips := min 255 (base.fault.laterTrips + laterTripsSoFar r done) })
    ⟨rfl, by simp [laterTripsSoFar, Nat.min_eq_right hlater]⟩ (by
      rintro done n d hn - ⟨hstation, hfault⟩
      have hpass := Delivery.pass_of_tripped (d := d) (r := r) hrange (by rw [hstation, hs]) n
      refine ⟨hpass.station.trans hstation, ?_⟩
      rw [hpass.fault, hfault, laterTripsSoFar_append hn]
      cases r.trips n
      · simp
      · simp only [if_true, FaultRecord.laterTrip, FaultRecord.mk.injEq, true_and]
        omega)
  rw [← hstate, hstation, hfault]
  simp [laterTripsSoFar, hall]

end

end Sys2Proof.Machine
end

section
/-! SUPPORT. A figure set without a trip at a station that keeps its state or reacts to the classifier alone, at one in SYNCING
whose start is due, and at one whose STOPPING ends (R8, R10, R12 to R15, R18, R19, R23, R157). -/

namespace Sys2Proof.Machine

section
variable {s t u base x y : State} {cfg : Configuration} {r : FigureReport} {order : List Neighbour} {e : ClassifierState}

/-- No trip reported, in the words of the delivery (R57, R58). -/
theorem DeliveredFrom.noReport (h : DeliveredFrom s t base cfg r order) (hnone : noTripReported s t.sampler) : r.Quiet := by
  obtain ⟨hover, htemperature⟩ := hnone
  refine ⟨?_, ?_⟩
  · rw [h.overcurrentReport]
    rcases hover with hnow | ⟨hbefore, htripped⟩
    · simp [tripReported, hnow]
    · simp [tripReported, hbefore, htripped]
  · rw [h.overTemperatureReport]
    rcases htemperature with hnow | ⟨hbefore, htripped⟩
    · simp [tripReported, hnow]
    · simp [tripReported, hbefore, htripped]

/-- The classifier's turn is the statements' figure set at a part that is like the one before the boundary. -/
theorem DeliveredFrom.classifier_taken (h : DeliveredFrom s t base cfg r order) (hrange : configurationInRange cfg = true)
    (hfits : y.station.StackFits) (hy : y.sampler.figures = base.sampler.figures) :
    y.stationAct cfg r .classifier = figureTaken y cfg t.sampler.figures.voltage s.allocator.setpoint := by
  rw [← h.setpoint, ← h.figures, ← hy]
  exact State.classifyFigure_eq_taken _ _ hrange hfits

/-! ### A station that neither starts nor ends its STOPPING by the boundary -/

theorem reacted_regulator_kept (hs : x.station.state = .run ∨ x.station.state = .restart)
    (he : e = .disturbed ∨ e = .outside) (setpoint : Nat) : (reacted x cfg e setpoint).regulator = x.regulator := by
  have hescalated : (counted (alerted (standbyFrom x .escalation) (alertOf x .standby 8 0)) [.escalation]).regulator =
      x.regulator := by simp [counted, standbyFrom, blockedFrom]
  unfold reacted
  rcases hs with hs | hs <;> rcases he with rfl | rfl <;> rw [hs] <;> dsimp only
  · simp [rideFrom]
  · simp [blockedWith, blockedFrom]
  · split
    · simp [rideFrom]
    · exact hescalated
  · split
    · simp [blockedWith, blockedFrom]
    · exact hescalated

theorem figureTaken_regulator_kept (hs : x.station.state = .run ∨ x.station.state = .restart) (v setpoint : Nat) :
    (figureTaken x cfg v setpoint).regulator = x.regulator := by
  rw [figureTaken_eq]
  cases hentered : figureEntered x.classifier cfg v with
  | none => rfl
  | some e => exact reacted_regulator_kept (x := figureHeard x cfg v) hs (figureEntered_ne_normal v hentered) setpoint

/-- A figure set at a settled station is the statements' one, with the integrator of the order (R13, R157). -/
theorem DeliveredFrom.settled_taken (h : DeliveredFrom s t base cfg r order) (hu : Alike u base)
    (hrange : configurationInRange cfg = true) (hfits : s.station.StackFits) (hquiet : r.Quiet)
    (hsettled : Settled cfg base) (integrator : Int)
    (hearly : r.boundary ≠ none → actsBefore (deliveryOrder order) .regulator .classifier →
      integrator = t.regulator.integrator)
    (hlate : r.boundary = none ∨ ¬ actsBefore (deliveryOrder order) .regulator .classifier →
      integrator = s.regulator.integrator) :
    Alike t (figureTaken { u with regulator := { s.regulator with integrator := integrator } } cfg
      t.sampler.figures.voltage s.allocator.setpoint) := by
  obtain ⟨y, hy, hx, hkept, hupdated⟩ := base.deliver_of_settled (order := order) hsettled hrange hquiet
  have htaken := h.classifier_taken hrange (by rw [hy.station, h.base_station]; exact hfits) hy.figures
  rw [htaken] at hx hupdated
  have hu' : Alike y { u with regulator := { s.regulator with integrator := integrator } } := by
    have hyu := hy.trans hu.symm
    exact ⟨hyu.time, hyu.station, hyu.tracker, hyu.figures, hyu.classifier, hyu.line, hyu.allocator, hyu.mode,
      hyu.events, hyu.fault⟩
  refine (h.alike_behind.trans hx).trans (hu'.figureTaken _ _ fun hs => ?_)
  show y.regulator.integrator = integrator
  by_cases hfirst : r.boundary ≠ none ∧ actsBefore (deliveryOrder order) .regulator .classifier
  · rw [hearly hfirst.1 hfirst.2, h.regulator, hupdated hfirst.1 hfirst.2, figureTaken_regulator_kept hs]
  · have hnot : r.boundary = none ∨ ¬ actsBefore (deliveryOrder order) .regulator .classifier := by tauto
    rw [hlate hnot, hkept hnot, h.base_regulator]

theorem DeliveredFrom.settled (h : DeliveredFrom s t base cfg r order)
    (hsync : s.station.state = .syncing → s.classifier.state ≠ .normal ∨ s.tracker.state ≠ .locked)
    (hstop : s.station.state = .stopping → 0 < min s.allocator.setpoint t.sampler.figures.capability ∨
      cfg.currentZero < t.sampler.figures.current) : Settled cfg base := by
  refine ⟨fun hs hlocked => ?_, fun hs => ?_⟩
  · rw [h.base_station] at hs
    rw [h.trackerState] at hlocked
    rw [h.base_classifier]
    exact (hsync hs).resolve_right (not_not.mpr hlocked)
  · rw [h.base_station] at hs
    have hfiring : s.station.state.firing = true := by rw [hs]; rfl
    rw [h.base_allocator, h.figures, suppliedAllocator, if_pos hfiring]
    exact hstop hs

/-! ### The classifier's turn by the station's state -/

theorem figureHeard_station (v : Nat) : (figureHeard x cfg v).station = x.station := rfl

/-- On a NORMAL grid without a sag the classifier does nothing (R66). -/
theorem figureTaken_of_quiet {v : Nat} (setpoint : Nat) (hc : x.classifier.state = .normal) (hv : cfg.voltSag ≤ v) :
    figureTaken x cfg v setpoint = x := by
  obtain ⟨hheard, hentered⟩ := figureHeard_eq_self (s := x) (cfg := cfg) (.inr ⟨hc, hv⟩)
  rw [figureTaken_eq, hentered, Option.elim_none, hheard]

/-- A sag on a NORMAL grid is an onset (R66). -/
theorem figureEntered_of_sag {v : Nat} {c : Classifier} (hc : c.state = .normal) (hv : v < cfg.voltSag) :
    ∃ e, figureEntered c cfg v = some e ∧ (e = .disturbed ∨ e = .outside) := by
  unfold figureEntered
  rw [if_pos (.inl hc), if_pos hv]
  refine ⟨_, rfl, ?_⟩
  split
  · exact .inl rfl
  · exact .inr rfl

/-- A station that does not fire does not react to a disturbance (R12, R14, R15). -/
theorem reacted_of_idle (hs : x.station.state.firing = false) (he : e = .disturbed ∨ e = .outside) (setpoint : Nat) :
    reacted x cfg e setpoint = x := by
  unfold reacted
  cases hstate : x.station.state <;> rw [hstate] at hs
  case starting | run | ride | restart | stopping => exact Bool.noConfusion hs
  all_goals rcases he with rfl | rfl <;> rfl

theorem figureTaken_of_idle (hs : x.station.state.firing = false) (v setpoint : Nat) :
    figureTaken x cfg v setpoint = figureHeard x cfg v := by
  rw [figureTaken_eq]
  cases hentered : figureEntered x.classifier cfg v with
  | none => rfl
  | some e => exact reacted_of_idle (x := figureHeard x cfg v) hs (figureEntered_ne_normal v hentered) setpoint

/-- A sag takes a station in STARTING back to SYNCING (R12). -/
theorem figureTaken_of_starting {v : Nat} (setpoint : Nat) (hs : x.station.state = .starting)
    (hc : x.classifier.state = .normal) (hv : v < cfg.voltSag) :
    figureTaken x cfg v setpoint = blockedFrom (figureHeard x cfg v) .syncing := by
  obtain ⟨e, hentered, he⟩ := figureEntered_of_sag hc hv
  rw [figureTaken_eq, hentered, Option.elim_some]
  unfold reacted
  rw [figureHeard_station, hs]
  rcases he with rfl | rfl <;> rfl

/-! ### SYNCING with the start due -/

/-- The controller's turn starts a station in SYNCING (R10). -/
theorem State.stationAct_starts (hrange : configurationInRange cfg = true) (hfits : x.station.StackFits)
    (hs : x.station.state = .syncing) (hlocked : x.tracker.state = .locked) (hc : x.classifier.state = .normal) :
    x.stationAct cfg r .controller = startedFrom x cfg := by
  have hstart := State.testStart_eq (s := x) hrange hs hfits
  rw [if_pos ⟨hlocked, hc⟩] at hstart
  show x.boundaryTests cfg = _
  unfold State.boundaryTests
  rw [hs]
  exact hstart

/-- A station that waits for the start condition, which holds (R10). -/
structure Startable (x : State) : Prop where
  state : x.station.state = .syncing
  tracker : x.tracker.state = .locked
  classifier : x.classifier.state = .normal
  fits : x.station.StackFits

theorem Alike.startable (h : Alike x y) (hy : Startable y) : Startable x :=
  ⟨by rw [h.station, hy.state], by rw [h.tracker, hy.tracker], by rw [h.classifier, hy.classifier],
    by rw [h.station]; exact hy.fits⟩

theorem Startable.starts (h : Startable x) (hrange : configurationInRange cfg = true) :
    x.stationAct cfg r .controller = startedFrom x cfg :=
  State.stationAct_starts hrange h.fits h.state h.tracker h.classifier

theorem Station.fits_of_empty {st : Station} (hstack : st.stack = []) (hs : st.state.holdsRecords = false) :
    st.StackFits := by
  simp [Station.StackFits, hstack, hs]

theorem startedFrom_fits : (startedFrom x cfg).station.StackFits := Station.fits_of_empty rfl rfl

/-- Without a sag the station starts, whatever the order (R10). -/
theorem DeliveredFrom.starts (h : DeliveredFrom s t base cfg r order) (hrange : configurationInRange cfg = true)
    (hbase : Startable base) (hquiet : r.Quiet) (hv : cfg.voltSag ≤ t.sampler.figures.voltage) :
    Alike t (startedFrom base cfg) := by
  obtain ⟨y, z, hy, ⟨-, hz, hx⟩ | ⟨-, hz, hx⟩⟩ := base.deliver_in_turn (cfg := cfg) (order := order) hquiet
  · have hyb := hy.startable hbase
    rw [h.classifier_taken hrange hyb.fits hy.figures, figureTaken_of_quiet _ hyb.classifier hv] at hz
    have hzb : Alike z base := hz.trans hy
    rw [(hzb.startable hbase).starts hrange] at hx
    exact h.alike_behind.trans (hx.trans hzb.startedFrom)
  · rw [(hy.startable hbase).starts hrange] at hz
    have hzb : Alike z (startedFrom base cfg) := hz.trans hy.startedFrom
    rw [h.classifier_taken hrange (by rw [hzb.station]; exact startedFrom_fits) (by rw [hzb.figures]; rfl),
      figureTaken_of_quiet _ (by rw [hzb.classifier]; exact hbase.classifier) hv] at hx
    exact h.alike_behind.trans (hx.trans hzb)

/-- At a sag the station stays in SYNCING, or starts and is back there, as the order has it (R10, R12). -/
theorem DeliveredFrom.held_back (h : DeliveredFrom s t base cfg r order) (hrange : configurationInRange cfg = true)
    (hbase : Startable base) (hquiet : r.Quiet) (hv : t.sampler.figures.voltage < cfg.voltSag) :
    (actsBefore (deliveryOrder order) .classifier .controller ∧
        Alike t (figureHeard base cfg t.sampler.figures.voltage)) ∨
      (actsBefore (deliveryOrder order) .controller .classifier ∧
        Alike t (blockedFrom (figureHeard (startedFrom base cfg) cfg t.sampler.figures.voltage) .syncing)) := by
  obtain ⟨y, z, hy, ⟨hfirst, hz, hx⟩ | ⟨hfirst, hz, hx⟩⟩ := base.deliver_in_turn (cfg := cfg) (order := order) hquiet
  · refine .inl ⟨hfirst, ?_⟩
    have hyb := hy.startable hbase
    rw [h.classifier_taken hrange hyb.fits hy.figures, figureTaken_of_idle (by rw [hyb.state]; rfl)] at hz
    have hzb := hz.trans (hy.figureHeard (cfg := cfg) t.sampler.figures.voltage)
    obtain ⟨e, hentered, he⟩ := figureEntered_of_sag hbase.classifier hv
    have hsettled : Settled cfg z := by
      refine ⟨fun _ _ => ?_, fun hs => ?_⟩
      · rw [hzb.classifier, figureHeard_state_of_some _ hentered]
        rcases he with rfl | rfl <;> decide
      · rw [hzb.station, figureHeard_station, hbase.state] at hs
        exact absurd hs (by decide)
    have hact : z.stationAct cfg r .controller = z := hsettled.boundaryTests
    rw [hact] at hx
    exact h.alike_behind.trans (hx.trans hzb)
  · refine .inr ⟨hfirst, ?_⟩
    rw [(hy.startable hbase).starts hrange] at hz
    have hzb : Alike z (startedFrom base cfg) := hz.trans hy.startedFrom
    have hstate : z.station.state = .starting := by rw [hzb.station]; rfl
    rw [h.classifier_taken hrange (by rw [hzb.station]; exact startedFrom_fits) (by rw [hzb.figures]; rfl),
      figureTaken_of_starting _ hstate (by rw [hzb.classifier]; exact hbase.classifier) hv] at hx
    exact h.alike_behind.trans (hx.trans ((hzb.figureHeard _).blockedFrom _))

/-! ### STOPPING that ends at the boundary -/

/-- A station whose STOPPING ends at the controller's turn (R23). -/
structure Stopped (cfg : Configuration) (x : State) : Prop where
  state : x.station.state = .stopping
  setpoint : x.allocator.setpoint = 0
  current : x.sampler.figures.current ≤ cfg.currentZero
  fits : x.station.StackFits

theorem Alike.stopped (h : Alike x y) (hy : Stopped cfg y) : Stopped cfg x :=
  ⟨by rw [h.station, hy.state], by rw [h.allocator, hy.setpoint], by rw [h.figures]; exact hy.current,
    by rw [h.station]; exact hy.fits⟩

theorem Stopped.figureHeard (h : Stopped cfg x) (v : Nat) : Stopped cfg (figureHeard x cfg v) :=
  ⟨h.state, h.setpoint, h.current, h.fits⟩

theorem Stopped.arrives (h : Stopped cfg x) (hrange : configurationInRange cfg = true) :
    x.stationAct cfg r .controller = arrivedFrom x cfg := by
  have hended : x.stoppingEnded cfg = true := by
    simp [State.stoppingEnded, h.setpoint, h.current]
  show x.boundaryTests cfg = _
  unfold State.boundaryTests
  rw [h.state]
  show x.testStopping cfg = _
  unfold State.testStopping
  rw [if_pos hended, State.enterDestination_eq hrange h.state h.fits]

/-- A station that has a destination does not fire in it, and no test is made there. -/
theorem arrivedFrom_cases (x : State) (cfg : Configuration) :
    (x.station.destination = none ∧ arrivedFrom x cfg = x) ∨
      (x.station.destination ≠ none ∧ ((arrivedFrom x cfg).station.state = .off ∨
        (arrivedFrom x cfg).station.state = .standby) ∧ (arrivedFrom x cfg).station.StackFits) := by
  unfold arrivedFrom
  cases x.station.destination with
  | none => exact .inl ⟨rfl, rfl⟩
  | some destination =>
    cases destination with
    | off => exact .inr ⟨by simp, .inl rfl, Station.fits_of_empty rfl rfl⟩
    | standby => exact .inr ⟨by simp, .inr rfl, Station.fits_of_empty rfl rfl⟩

/-- It is all one whether the classifier's own part or the arrival comes first. -/
theorem figureHeard_arrivedFrom (x : State) (cfg : Configuration) (v : Nat) :
    Alike (figureHeard (arrivedFrom x cfg) cfg v) (arrivedFrom (figureHeard x cfg v) cfg) := by
  unfold arrivedFrom
  rw [figureHeard_station]
  cases x.station.destination with
  | none => exact Alike.refl _
  | some destination =>
    cases destination with
    | off =>
      exact ⟨rfl, rfl, rfl, rfl, figureTaken_classifier_congr v 0 0 rfl rfl rfl, rfl, rfl, rfl, rfl, rfl⟩
    | standby =>
      exact ⟨rfl, rfl, rfl, rfl, figureTaken_classifier_congr v 0 0 rfl rfl rfl, rfl, rfl, rfl, rfl, rfl⟩

theorem Settled.of_off_standby (hs : x.station.state = .off ∨ x.station.state = .standby) : Settled cfg x := by
  refine ⟨fun h => ?_, fun h => ?_⟩ <;> rcases hs with hs | hs <;> rw [hs] at h <;> exact absurd h (by decide)

/-- The classifier's turn at a station in STOPPING: its own part, and the arrival when the grid is OUTSIDE (R15, R23). -/
theorem figureTaken_of_stopping (hs : x.station.state = .stopping) (v setpoint : Nat) :
    figureTaken x cfg v setpoint = figureHeard x cfg v ∨
      figureTaken x cfg v setpoint = arrivedFrom (figureHeard x cfg v) cfg := by
  rw [figureTaken_eq]
  cases hentered : figureEntered x.classifier cfg v with
  | none => exact .inl rfl
  | some e =>
    rw [Option.elim_some]
    unfold reacted
    rw [figureHeard_station, hs]
    rcases figureEntered_ne_normal v hentered with rfl | rfl
    · exact .inl rfl
    · exact .inr rfl

theorem arrivedFrom_events (x : State) (cfg : Configuration) :
    (arrivedFrom x cfg).events = x.events ∧ (arrivedFrom x cfg).fault = x.fault := by
  unfold arrivedFrom
  split <;> exact ⟨rfl, rfl⟩

/-- A station whose STOPPING ends enters its destination, whatever the order (R23). -/
theorem DeliveredFrom.arrived (h : DeliveredFrom s t base cfg r order) (hrange : configurationInRange cfg = true)
    (hbase : Stopped cfg base) (hquiet : r.Quiet) :
    Alike t (arrivedFrom (figureHeard base cfg t.sampler.figures.voltage) cfg) := by
  have hagain (z : State) (hz : Alike z (arrivedFrom (figureHeard base cfg t.sampler.figures.voltage) cfg)) :
      Alike (z.stationAct cfg r .controller) (arrivedFrom (figureHeard base cfg t.sampler.figures.voltage) cfg) := by
    rcases arrivedFrom_cases (figureHeard base cfg t.sampler.figures.voltage) cfg with ⟨-, hnone⟩ | ⟨-, hdest, -⟩
    · rw [hnone] at hz
      rw [(hz.stopped (hbase.figureHeard _)).arrives hrange]
      exact hz.arrivedFrom
    · have hact : z.stationAct cfg r .controller = z :=
        (Settled.of_off_standby (cfg := cfg) (by rw [hz.station]; exact hdest)).boundaryTests
      rw [hact]
      exact hz
  obtain ⟨y, z, hy, ⟨-, hz, hx⟩ | ⟨-, hz, hx⟩⟩ := base.deliver_in_turn (cfg := cfg) (order := order) hquiet
  · have hyb := hy.stopped hbase
    refine h.alike_behind.trans (hx.trans ?_)
    rw [h.classifier_taken hrange hyb.fits hy.figures] at hz
    rcases figureTaken_of_stopping (cfg := cfg) hyb.state t.sampler.figures.voltage s.allocator.setpoint with heq | heq <;>
      rw [heq] at hz
    · have hzb := hz.trans (hy.figureHeard (cfg := cfg) t.sampler.figures.voltage)
      rw [(hzb.stopped (hbase.figureHeard _)).arrives hrange]
      exact hzb.arrivedFrom
    · exact hagain z (hz.trans (hy.figureHeard _).arrivedFrom)
  · refine h.alike_behind.trans (hx.trans ?_)
    rw [(hy.stopped hbase).arrives hrange] at hz
    have hzb : Alike z (arrivedFrom base cfg) := hz.trans hy.arrivedFrom
    rcases arrivedFrom_cases base cfg with ⟨hdest, hnone⟩ | ⟨-, hdest, hfits⟩
    · rw [hnone] at hzb
      have hzs := hzb.stopped hbase
      have hheard : Alike (figureHeard z cfg t.sampler.figures.voltage)
          (figureHeard base cfg t.sampler.figures.voltage) := hzb.figureHeard _
      rw [h.classifier_taken hrange hzs.fits hzb.figures]
      rcases figureTaken_of_stopping (cfg := cfg) hzs.state t.sampler.figures.voltage s.allocator.setpoint with heq | heq <;>
        rw [heq]
      · rcases arrivedFrom_cases (figureHeard base cfg t.sampler.figures.voltage) cfg with ⟨-, hkept⟩ | ⟨hne, -, -⟩
        · rw [hkept]
          exact hheard
        · exact absurd hdest hne
      · exact hheard.arrivedFrom
    · have hfigures : (arrivedFrom base cfg).sampler.figures = base.sampler.figures := by
        unfold arrivedFrom
        split <;> rfl
      rw [h.classifier_taken hrange (by rw [hzb.station]; exact hfits) (hzb.figures.trans hfigures),
        figureTaken_of_idle (by rw [hzb.station]; rcases hdest with hs | hs <;> rw [hs] <;> rfl)]
      exact (hzb.figureHeard _).trans (figureHeard_arrivedFrom base cfg _)

/-- A station that has stopped firing by a boundary has its gates blocked (R165). -/
theorem State.deliver_blocked (hrange : configurationInRange cfg = true) (hs : base.station.state.firing = true)
    (ht : (base.deliver cfg r order).station.state.firing = false) : (base.deliver cfg r order).gates.Blocked := by
  cases hb : r.boundary with
  | none =>
    obtain ⟨d, hstate, hfiring | hstopped⟩ := base.deliver_of_free (order := order) hrange hb hs
    · have := hfiring.firing
      rw [hstate, ht] at this
      exact absurd this (by decide)
    · rw [← hstate, hstopped.gates]
      exact Gates.blocked_blockedGates _
  | some b =>
    rcases base.deliver_of_firing (order := order) hrange hb hs with ⟨hfiring, -, -⟩ | ⟨d, hstate, hstopped⟩
    · rw [ht] at hfiring
      exact absurd hfiring (by decide)
    · rw [← hstate]
      exact hstopped.gates

end

end Sys2Proof.Machine
end

section
/-! SUPPORT. What the classifier and the controller leave for a trip that comes behind them: the demand, the count of TRIP, and
a station that is not yet tripped (R26, R174). -/

namespace Sys2Proof.Machine

/-! ### One occurrence at the counters (R174) -/

section
variable (e : EventUnit) (k : EventKind) {i : Fin 24}

theorem EventUnit.count_of_room (h : e.counters[k.index] < 255) :
    (e.count k).counters[k.index] = e.counters[k.index] + 1 := by
  unfold EventUnit.count
  rw [if_pos h]
  simp

theorem EventUnit.count_of_full (h : 255 ≤ e.counters[k.index]) : (e.count k).overflow[k.index] = true := by
  unfold EventUnit.count
  rw [if_neg (Nat.not_lt.mpr h)]
  simp

theorem EventUnit.count_other (h : k.index ≠ i) : (e.count k).counters[i] = e.counters[i] := by
  have hval : k.index.val ≠ i.val := fun heq => h (Fin.ext heq)
  unfold EventUnit.count
  split
  · simp [hval]
  · simp

theorem EventUnit.le_count : e.counters[i] ≤ (e.count k).counters[i] := by
  by_cases h : k.index = i
  · subst h
    unfold EventUnit.count
    split
    · simp
    · simp
  · rw [e.count_other k h]

theorem EventUnit.overflow_count (h : e.overflow[i] = true) : (e.count k).overflow[i] = true := by
  unfold EventUnit.count
  split
  · exact h
  · simpa [Vector.getElem_set] using .inr h

theorem EventUnit.le_countAll (kinds : List EventKind) : e.counters[i] ≤ (kinds.foldl EventUnit.count e).counters[i] := by
  induction kinds generalizing e with
  | nil => exact Nat.le_refl _
  | cons k kinds ih => exact (e.le_count k).trans (ih _)

theorem EventUnit.overflow_countAll (kinds : List EventKind) (h : e.overflow[i] = true) :
    (kinds.foldl EventUnit.count e).overflow[i] = true := by
  induction kinds generalizing e with
  | nil => exact h
  | cons k kinds ih => exact ih _ (e.overflow_count k h)

theorem EventKind.index_eq_trip (h : k.index = EventKind.index .trip) : k = .trip := by
  revert h
  cases k <;> decide

theorem EventUnit.trip_countAll (kinds : List EventKind) (h : .trip ∉ kinds) :
    (kinds.foldl EventUnit.count e).counters[EventKind.index .trip] = e.counters[EventKind.index .trip] := by
  induction kinds generalizing e with
  | nil => rfl
  | cons k kinds ih =>
    obtain ⟨hk, hkinds⟩ : EventKind.trip ≠ k ∧ .trip ∉ kinds := by simpa using h
    exact (ih _ hkinds).trans (e.count_other k fun heq => hk (k.index_eq_trip heq).symm)

end

/-! ### The operations of a station that is not tripped -/

/-- A part that leaves a trip to come what it needs: the demand, the count of TRIP, and no TX_DROPPED taken back. -/
structure Untouched (x y : State) : Prop where
  state : y.station.state ≠ .tripped ∧ y.station.state ≠ .unconfigured
  demand : y.allocator.demand = x.allocator.demand
  trips : y.events.counters[EventKind.index .trip] = x.events.counters[EventKind.index .trip]
  dropped : x.events.counters[EventKind.index .txDropped] ≤ y.events.counters[EventKind.index .txDropped]

section
variable {x y : State} {cfg : Configuration} {r : FigureReport} {n : Neighbour}

theorem Untouched.refl (hs : x.station.state ≠ .tripped ∧ x.station.state ≠ .unconfigured) : Untouched x x :=
  ⟨hs, rfl, rfl, Nat.le_refl _⟩

theorem Untouched.count (h : Untouched x y) (k : EventKind) (hk : k ≠ .trip) : Untouched x (y.count k) :=
  ⟨h.state, h.demand,
    (y.events.count_other k fun heq => hk (k.index_eq_trip heq)).trans h.trips,
    h.dropped.trans (y.events.le_count k)⟩

theorem Untouched.countAll (h : Untouched x y) (kinds : List EventKind) (hk : .trip ∉ kinds) (c : Classifier) :
    Untouched x { counted y kinds with classifier := c } :=
  ⟨h.state, h.demand, (y.events.trip_countAll kinds hk).trans h.trips, h.dropped.trans (y.events.le_countAll kinds)⟩

theorem Untouched.queueAlert (h : Untouched x y) (kind : AlertKind) : Untouched x (y.queueAlert kind) := by
  unfold State.queueAlert State.queueFrame
  split
  · exact ⟨h.state, h.demand, h.trips, h.dropped⟩
  · exact h.count .txDropped (by decide)

theorem Untouched.enter (h : Untouched x y) (dest : StationState) (ht : dest ≠ .tripped) (hu : dest ≠ .unconfigured) :
    Untouched x (y.enter cfg dest) := by
  obtain ⟨-, -, -, -, -, -, -, -, hevents, -⟩ := State.enter_frame y cfg dest
  exact ⟨⟨ht, hu⟩, h.demand, by rw [hevents, h.trips], by rw [hevents]; exact h.dropped⟩

theorem Untouched.setStation (h : Untouched x y) (st : Station) (hst : st.state = y.station.state) :
    Untouched x (y.setStation st) :=
  ⟨by rw [State.setStation_station, hst]; exact h.state, h.demand, h.trips, h.dropped⟩

theorem Untouched.pushContext (h : Untouched x y) (setpoint : Nat) : Untouched x (y.pushContext setpoint) :=
  h.setStation _ rfl

theorem Untouched.enterStandby (h : Untouched x y) (origin : StandbyOrigin) : Untouched x (y.enterStandby cfg origin) :=
  ((h.enter .standby (by decide) (by decide)).setStation _ rfl).setStation _ rfl

theorem Untouched.rideOut (h : Untouched x y) (setpoint : Nat) : Untouched x (y.rideOut cfg setpoint) :=
  ((h.pushContext setpoint).enter .ride (by decide) (by decide)).queueAlert _

theorem Untouched.enterBlocked (h : Untouched x y) : Untouched x (y.enterBlocked cfg) :=
  (h.enter .blocked (by decide) (by decide)).queueAlert _

theorem Untouched.escalate (h : Untouched x y) : Untouched x (y.escalate cfg) :=
  ((h.enterStandby _).queueAlert _).count _ (by decide)

theorem Untouched.testStart (h : Untouched x y) : Untouched x (y.testStart cfg) := by
  unfold State.testStart
  split
  · exact h.enter _ (by decide) (by decide)
  · exact h

theorem Untouched.enterDestination (h : Untouched x y) : Untouched x (y.enterDestination cfg) := by
  unfold State.enterDestination
  split
  · exact h.enter _ (by decide) (by decide)
  · exact h.enterStandby _
  · exact h

theorem Untouched.boundaryTests (h : Untouched x y) : Untouched x (y.boundaryTests cfg) := by
  unfold State.boundaryTests
  split
  · exact h.testStart
  · unfold State.testStopping
    split
    · exact h.enterDestination
    · exact h
  all_goals exact h

theorem Untouched.reactTo (h : Untouched x y) (transition : Transition) (setpoint : Nat) :
    Untouched x (y.reactTo cfg transition setpoint) := by
  unfold State.reactTo
  split
  case h_1 => exact h.testStart
  case h_2 | h_3 => exact h.enter _ (by decide) (by decide)
  case h_4 => exact h.rideOut _
  case h_5 => exact (h.pushContext _).enterBlocked
  case h_6 => exact h.enterBlocked
  case h_7 | h_8 => exact h.enter _ (by decide) (by decide)
  case h_9 =>
    split
    · exact h.rideOut _
    · exact h.escalate
  case h_10 =>
    split
    · exact (h.pushContext _).enterBlocked
    · exact h.escalate
  case h_11 => exact h.enterDestination
  case h_12 => exact h

theorem Untouched.classifyFigure (h : Untouched x y) (hrange : configurationInRange cfg = true) (v setpoint : Nat) :
    Untouched x (y.classifyFigure cfg v setpoint) := by
  have hheard : Untouched x (figureHeard y cfg v) := h.countAll _ (trip_not_mem_figureKinds _ _) _
  rw [State.classifyFigure_eq _ _ hrange]
  cases figureEntered y.classifier cfg v with
  | none => exact hheard
  | some e => exact hheard.reactTo _ _

/-- A neighbour to which no trip is reported leaves what a trip needs, and the Fault Record. -/
theorem Untouched.stationAct (h : Untouched x y) (hrange : configurationInRange cfg = true) (hn : r.trips n = false) :
    Untouched x (y.stationAct cfg r n) ∧ (y.stationAct cfg r n).fault = y.fault := by
  by_cases hc : n = .classifier
  · rw [hc]
    refine ⟨h.classifyFigure hrange _ _, ?_⟩
    show (y.classifyFigure cfg y.sampler.figures.voltage r.setpointBefore).fault = _
    simp
  · by_cases hk : n = .controller
    · rw [hk]
      refine ⟨h.boundaryTests, ?_⟩
      show (y.boundaryTests cfg).fault = _
      simp
    · rw [State.stationAct_of_not_trips hc hk hn]
      exact ⟨h, rfl⟩

end

end Sys2Proof.Machine
end

section
/-! SUPPORT. A figure set that reports a trip: the part before the first trip, the trip, and the part behind it (R26, R57, R58,
R180, R181). -/

namespace Sys2Proof.Machine

section
variable {base x y z : State} {cfg : Configuration} {r : FigureReport} {order done : List Neighbour} {d : Delivery}
  {n : Neighbour}

/-! ### Before the first trip -/

/-- A grid without a disturbance and a station at which the controller's turn changes nothing. -/
structure Calm (cfg : Configuration) (x : State) : Prop where
  classifier : x.classifier.state = .normal
  voltage : cfg.voltSag ≤ x.sampler.figures.voltage
  notSyncing : x.station.state ≠ .syncing
  notStopping : x.station.state ≠ .stopping

/-- On a NORMAL grid without a sag the classifier's turn changes nothing. -/
theorem State.stationAct_classifier_quiet (hc : x.classifier.state = .normal)
    (hv : cfg.voltSag ≤ x.sampler.figures.voltage) : x.stationAct cfg r .classifier = x := by
  simp [State.stationAct, State.classifyFigure, hc, Nat.not_lt.mpr hv]

theorem Alike.calm (h : Alike x y) (hy : Calm cfg y) : Calm cfg x :=
  ⟨by rw [h.classifier, hy.classifier], by rw [h.figures]; exact hy.voltage, by rw [h.station]; exact hy.notSyncing,
    by rw [h.station]; exact hy.notStopping⟩

theorem Calm.stationAct (h : Calm cfg x) (hn : r.trips n = false) : x.stationAct cfg r n = x := by
  by_cases hc : n = .classifier
  · rw [hc]
    exact State.stationAct_classifier_quiet h.classifier h.voltage
  · by_cases hk : n = .controller
    · have hsettled : Settled cfg x :=
        ⟨fun hs => absurd hs h.notSyncing, fun hs => absurd hs h.notStopping⟩
      rw [hk]
      exact hsettled.boundaryTests
    · exact State.stationAct_of_not_trips hc hk hn

/-- So far no trip has been taken. -/
structure Untripped (base : State) (cfg : Configuration) (r : FigureReport) (done : List Neighbour) (x : State) :
    Prop where
  time : x.time = base.time
  tracker : x.tracker = base.tracker
  sampler : x.sampler = base.sampler
  fault : x.fault = base.fault
  untouched : Untouched base x
  noTrip : ∀ m ∈ done, r.trips m = false
  calm : Calm cfg base → Alike x base
  waiting : Startable base → cfg.voltSag ≤ base.sampler.figures.voltage → .controller ∉ done → Alike x base
  started : Startable base → cfg.voltSag ≤ base.sampler.figures.voltage → .controller ∈ done →
    Alike x (startedFrom base cfg)

theorem Alike.untouched (h : Alike x y) (hy : Untouched base y) : Untouched base x :=
  ⟨by rw [h.station]; exact hy.state, by rw [h.allocator, hy.demand], by rw [h.events, hy.trips],
    by rw [h.events]; exact hy.dropped⟩

theorem Untripped.noTrip_append (h : Untripped base cfg r done x) (hn : r.trips n = false) :
    ∀ m ∈ done ++ [n], r.trips m = false := by
  intro m hm
  rcases List.mem_append.mp hm with hm | hm
  · exact h.noTrip m hm
  · rw [List.mem_singleton.mp hm, hn]

/-- The classifier's and the controller's turns at a station whose start is due and that meets no sag. -/
theorem Untripped.stationAct_start (h : Untripped base cfg r done x) (hrange : configurationInRange cfg = true)
    (hn : r.trips n = false) (hfirst : n ∉ done) (hstart : Startable base)
    (hv : cfg.voltSag ≤ base.sampler.figures.voltage) :
    (.controller ∉ done ++ [n] → Alike (x.stationAct cfg r n) base) ∧
      (.controller ∈ done ++ [n] → Alike (x.stationAct cfg r n) (startedFrom base cfg)) := by
  have hkept (hk : n ≠ .controller) (hc : x.classifier.state = .normal) : x.stationAct cfg r n = x := by
    by_cases hclassifier : n = .classifier
    · rw [hclassifier]
      exact State.stationAct_classifier_quiet hc (by rw [h.sampler]; exact hv)
    · exact State.stationAct_of_not_trips hclassifier hk hn
  refine ⟨fun hout => ?_, fun hin => ?_⟩
  · have hk : n ≠ .controller := fun hk => hout (by simp [hk])
    have halike := h.waiting hstart hv fun hmem => hout (List.mem_append_left _ hmem)
    rw [hkept hk (by rw [halike.classifier]; exact hstart.classifier)]
    exact halike
  · by_cases hk : n = .controller
    · have halike := h.waiting hstart hv (hk ▸ hfirst)
      rw [hk, (halike.startable hstart).starts hrange]
      exact halike.startedFrom
    · have hmem : Neighbour.controller ∈ done := by
        rcases List.mem_append.mp hin with hmem | hmem
        · exact hmem
        · exact absurd (List.mem_singleton.mp hmem).symm hk
      have halike := h.started hstart hv hmem
      rw [hkept hk (by rw [halike.classifier]; exact hstart.classifier)]
      exact halike

theorem Untripped.pass (h : Untripped base cfg r done d.state) (hrange : configurationInRange cfg = true)
    (hfirst : n ∉ done) (hn : r.trips n = false) : Untripped base cfg r (done ++ [n]) (d.pass cfg r n).state := by
  obtain ⟨-, htime, htracker, hsampler, -⟩ := Delivery.pass_frame cfg r d n
  by_cases hangles : n = .regulator ∨ n = .generator
  · have halike : Alike (d.pass cfg r n).state d.state := Alike.pass_angles hangles
    have hmem : Neighbour.controller ∈ done ++ [n] ↔ .controller ∈ done := by rcases hangles with rfl | rfl <;> simp
    exact {
      time := htime.trans h.time
      tracker := htracker.trans h.tracker
      sampler := hsampler.trans h.sampler
      fault := halike.fault.trans h.fault
      untouched := halike.untouched h.untouched
      noTrip := h.noTrip_append hn
      calm := fun hcalm => halike.trans (h.calm hcalm)
      waiting := fun hstart hv hout => halike.trans (h.waiting hstart hv (mt hmem.mpr hout))
      started := fun hstart hv hin => halike.trans (h.started hstart hv (hmem.mp hin)) }
  · have hact := Delivery.pass_station_state (d := d) (cfg := cfg) (r := r) (n := n) (fun h => hangles (.inl h))
      fun h => hangles (.inr h)
    obtain ⟨huntouched, hfault⟩ := h.untouched.stationAct hrange hn
    rw [hact] at htime htracker hsampler ⊢
    exact {
      time := htime.trans h.time
      tracker := htracker.trans h.tracker
      sampler := hsampler.trans h.sampler
      fault := hfault.trans h.fault
      untouched := huntouched
      noTrip := h.noTrip_append hn
      calm := fun hcalm => by
        rw [((h.calm hcalm).calm hcalm).stationAct hn]
        exact h.calm hcalm
      waiting := fun hstart hv => (h.stationAct_start hrange hn hfirst hstart hv).1
      started := fun hstart hv => (h.stationAct_start hrange hn hfirst hstart hv).2 }

/-! ### Behind the first trip -/

/-- What stands behind a trip: the station that it left, with blocked gates and the picture it took. -/
structure Behind (cfg : Configuration) (z x : State) : Prop where
  sampler : x.sampler = z.sampler
  station : x.station = z.station
  allocator : x.allocator = z.allocator
  line : x.line = z.line
  blocked : x.gates.Blocked
  picture : x.fault.picture = z.fault.picture
  trips : x.events.counters[EventKind.index .trip] = z.events.counters[EventKind.index .trip]
  overflow : z.events.overflow[EventKind.index .trip] = true → x.events.overflow[EventKind.index .trip] = true
  dropped : z.events.counters[EventKind.index .txDropped] ≤ x.events.counters[EventKind.index .txDropped]
  quiet : z.classifier.state = .normal → cfg.voltSag ≤ z.sampler.figures.voltage →
    x.classifier = z.classifier ∧ x.events = z.events

theorem Behind.keeps {again : Bool} (h : Behind cfg z x) (hy : KeepsTripped cfg x y again) : Behind cfg z y := by
  obtain ⟨kinds, hkinds, hevents⟩ := hy.events
  refine ⟨hy.sampler.trans h.sampler, hy.station.trans h.station, hy.allocator.trans h.allocator, hy.line.trans h.line,
    hy.blocked h.blocked, ?_, ?_, fun hfull => ?_, ?_, fun hc hv => ?_⟩
  · rw [hy.fault, ← h.picture]
    split <;> rfl
  · rw [hevents, x.events.trip_countAll kinds hkinds, h.trips]
  · rw [hevents]
    exact x.events.overflow_countAll kinds (h.overflow hfull)
  · rw [hevents]
    exact h.dropped.trans (x.events.le_countAll kinds)
  · obtain ⟨hclassifier, hcounts⟩ := h.quiet hc hv
    obtain ⟨hkeptClassifier, hkeptCounts⟩ := hy.quiet (by rw [hclassifier, hc]) (by rw [h.sampler]; exact hv)
    exact ⟨hkeptClassifier.trans hclassifier, hkeptCounts.trans hcounts⟩

/-- A figure set with a trip so far: none taken yet, or the first taken at the neighbour `n` by the part `y`. -/
inductive TripSoFar (base : State) (cfg : Configuration) (r : FigureReport) (order done : List Neighbour) (x : State) :
    Prop
  | before (h : Untripped base cfg r done x)
  | behind (n : Neighbour) (before : List Neighbour) (y : State) (hn : r.trips n = true)
      (hy : Untripped base cfg r before y) (hbefore : ∀ m, actsBefore order m n ↔ m ∈ before)
      (hx : Behind cfg (trippedFrom (departing y) (tripCauseOf n)) x)
      (hlater : x.fault.laterTrips + 1 = laterTripsSoFar r done)

theorem laterTripsSoFar_le : laterTripsSoFar r done ≤ 2 := by
  unfold laterTripsSoFar
  split <;> split <;> simp

theorem laterTripsSoFar_of_none (h : ∀ m ∈ done, r.trips m = false) : laterTripsSoFar r done = 0 := by
  have hovercurrent : ¬ (r.overcurrent = true ∧ .overcurrent ∈ done) := fun ⟨hr, hm⟩ =>
    Bool.noConfusion (hr.symm.trans (h _ hm))
  have htemperature : ¬ (r.overTemperature = true ∧ .overTemperature ∈ done) := fun ⟨hr, hm⟩ =>
    Bool.noConfusion (hr.symm.trans (h _ hm))
  simp [laterTripsSoFar, hovercurrent, htemperature]

theorem Behind.refl_trippedFrom (cause : TripCause) : Behind cfg (trippedFrom x cause) (trippedFrom x cause) := by
  refine ⟨rfl, rfl, rfl, rfl, ?_, rfl, rfl, id, Nat.le_refl _, fun _ _ => ⟨rfl, rfl⟩⟩
  have hgates : (trippedFrom x cause).gates = blockedGates x.gates := by simp [trippedFrom, counted, blockedFrom]
  rw [hgates]
  exact Gates.blocked_blockedGates _

theorem TripSoFar.pass (h : TripSoFar base cfg r order done d.state) (hrange : configurationInRange cfg = true)
    (hnone : base.fault.picture = none) (hfirst : n ∉ done) (hbefore : ∀ m, actsBefore order m n ↔ m ∈ done) :
    TripSoFar base cfg r order (done ++ [n]) (d.pass cfg r n).state := by
  cases h with
  | before h =>
    by_cases hn : r.trips n = true
    · obtain ⟨-, -, hr, hg⟩ := FigureReport.trips_ne hn
      have htrip : (d.pass cfg r n).state = trippedFrom (departing d.state) (tripCauseOf n) := by
        rw [Delivery.pass_station_state hr hg, State.stationAct_of_trips hn,
          State.trip_eq _ h.untouched.state.2 h.untouched.state.1 (by rw [h.fault, hnone])]
      rw [htrip]
      refine .behind n done d.state hn h hbefore (Behind.refl_trippedFrom _) ?_
      rw [laterTripsSoFar_append hfirst, laterTripsSoFar_of_none h.noTrip, hn]
      rfl
    · rw [Bool.not_eq_true] at hn
      exact .before (h.pass hrange hfirst hn)
  | behind m before y hm hy hmbefore hx hlater =>
    have htripped : d.state.station.state = .tripped := by
      rw [hx.station]
      simp [trippedFrom, counted, blockedFrom, enteredStation]
    have hpass := Delivery.pass_of_tripped (d := d) (r := r) hrange htripped n
    refine .behind m before y hm hy hmbefore (hx.keeps hpass) ?_
    have hle : laterTripsSoFar r done ≤ 2 := laterTripsSoFar_le
    rw [laterTripsSoFar_append hfirst, hpass.fault, ← hlater]
    cases r.trips n
    · simp
    · simp only [if_true, FaultRecord.laterTrip]
      omega

/-- A figure set with a trip: the first neighbour that takes one leaves the station TRIPPED with its picture, and a second
trip raises the later-trip count (R26, R180, R181). -/
theorem State.deliver_trips (hrange : configurationInRange cfg = true)
    (hs : base.station.state ≠ .tripped ∧ base.station.state ≠ .unconfigured) (hnone : base.fault.picture = none)
    (hreported : r.overcurrent = true ∨ r.overTemperature = true) :
    ∃ n before y, r.trips n = true ∧ Untripped base cfg r before y ∧
      (∀ m, actsBefore (deliveryOrder order) m n ↔ m ∈ before) ∧
      Behind cfg (trippedFrom (departing y) (tripCauseOf n)) (base.deliver cfg r order) ∧
      (base.deliver cfg r order).fault.laterTrips =
        if r.overcurrent = true ∧ r.overTemperature = true then 1 else 0 := by
  obtain ⟨done, d, hall, hstate, hd⟩ := base.deliver_induction cfg r order
    (fun done d => TripSoFar base cfg r (deliveryOrder order) done d.state)
    (.before ⟨rfl, rfl, rfl, rfl, Untouched.refl hs, by simp, fun _ => Alike.refl _, fun _ _ _ => Alike.refl _,
      fun _ _ h => absurd h (by simp)⟩)
    (fun _ _ _ hn hbefore h => h.pass hrange hnone hn hbefore)
  rw [hstate] at hd
  cases hd with
  | before h =>
    have hovercurrent : r.overcurrent = false := h.noTrip .overcurrent (hall _)
    have htemperature : r.overTemperature = false := h.noTrip .overTemperature (hall _)
    simp [hovercurrent, htemperature] at hreported
  | behind n before y hn hy hbefore hx hlater =>
    refine ⟨n, before, y, hn, hy, hbefore, hx, ?_⟩
    simp only [laterTripsSoFar, hall, and_true] at hlater
    rcases hreported with hr | hr <;> simp only [hr, if_true, true_and, and_true] at hlater ⊢ <;> omega

end

end Sys2Proof.Machine
end

section
/-! SUPPORT. What a trip leaves, in the statement's words (R26, R83, R85, R174, R180). -/

namespace Sys2Proof.Machine

section
variable {s t u v base y z : State} {cfg : Configuration} {r : FigureReport} {order before : List Neighbour} {n : Neighbour}
  {cause : TripCause}

/-! ### The station that a trip leaves -/

@[simp] theorem departing_time (x : State) : (departing x).time = x.time := by
  unfold departing
  split <;> rfl

@[simp] theorem departing_station (x : State) : (departing x).station = x.station := by
  unfold departing
  split <;> rfl

@[simp] theorem departing_tracker (x : State) : (departing x).tracker = x.tracker := by
  unfold departing
  split <;> rfl

@[simp] theorem departing_sampler (x : State) : (departing x).sampler = x.sampler := by
  unfold departing
  split <;> rfl

@[simp] theorem departing_classifier (x : State) : (departing x).classifier = x.classifier := by
  unfold departing
  split <;> rfl

@[simp] theorem departing_allocator (x : State) : (departing x).allocator = x.allocator := by
  unfold departing
  split <;> rfl

@[simp] theorem departing_events (x : State) : (departing x).events = x.events := by
  unfold departing
  split <;> rfl

@[simp] theorem trippedFrom_frame (x : State) (cause : TripCause) :
    (trippedFrom x cause).time = x.time ∧ (trippedFrom x cause).sampler = x.sampler ∧
      (trippedFrom x cause).classifier = x.classifier ∧
      (trippedFrom x cause).station = enteredStation .tripped x.time ∧
      (trippedFrom x cause).allocator.setpoint = 0 := by
  simp [trippedFrom, counted, blockedFrom]

/-- The ALERT joins the end of the queue, or the queue is full and TX_DROPPED counts it (R83, R85). -/
theorem alerted_queued (x : State) (alert : AlertBody) :
    ((alerted x alert).line.alertQueue.getLast? = some ⟨.alert alert, x.time⟩ ∧ (alerted x alert).events = x.events) ∨
      (4 ≤ (alerted x alert).line.alertQueue.length ∧ (alerted x alert).events = x.events.count .txDropped) := by
  unfold alerted
  split
  · exact .inl ⟨by simp, rfl⟩
  · exact .inr ⟨Nat.not_lt.mp ‹_›, rfl⟩

/-- The events of a trip, but for the count of TRIP (R26, R174). -/
theorem trippedFrom_events (x : State) (cause : TripCause) :
    (trippedFrom x cause).events =
      (alerted (blockedFrom x .tripped) (alertOf x .trip 9 x.allocator.demand)).events.count .trip := rfl

theorem trippedFrom_line (x : State) (cause : TripCause) :
    (trippedFrom x cause).line =
      (alerted (blockedFrom x .tripped) (alertOf x .trip 9 x.allocator.demand)).line := rfl

theorem alerted_trips (x : State) (alert : AlertBody) :
    (alerted x alert).events.counters[EventKind.index .trip] = x.events.counters[EventKind.index .trip] := by
  rcases alerted_queued x alert with ⟨-, hevents⟩ | ⟨-, hevents⟩
  · rw [hevents]
  · rw [hevents, x.events.count_other .txDropped (by decide)]

theorem alerted_congr (alert : AlertBody) (ht : y.time = z.time) (hl : y.line = z.line) (he : y.events = z.events) :
    (alerted y alert).line = (alerted z alert).line ∧ (alerted y alert).events = (alerted z alert).events := by
  unfold alerted
  rw [hl]
  split
  · exact ⟨by simp only [ht], he⟩
  · exact ⟨hl, congrArg (fun e => EventUnit.count e .txDropped) he⟩

theorem trippedFrom_dropped (x : State) (cause : TripCause) :
    x.events.counters[EventKind.index .txDropped] ≤
      (trippedFrom x cause).events.counters[EventKind.index .txDropped] := by
  rw [trippedFrom_events]
  refine Nat.le_trans ?_ (EventUnit.le_count _ _)
  rcases alerted_queued (blockedFrom x .tripped) (alertOf x .trip 9 x.allocator.demand) with ⟨-, hevents⟩ | ⟨-, hevents⟩ <;>
    rw [hevents]
  · exact Nat.le_refl _
  · exact EventUnit.le_count _ _

/-- TRIP is counted, or its marker set (R174). -/
theorem Behind.trip_counted (h : Behind cfg (trippedFrom z cause) t) :
    (z.events.counters[EventKind.index .trip] < 255 →
        t.events.counters[EventKind.index .trip] = z.events.counters[EventKind.index .trip] + 1) ∧
      (255 ≤ z.events.counters[EventKind.index .trip] → t.events.overflow[EventKind.index .trip] = true) := by
  have htrips := alerted_trips (blockedFrom z .tripped) (alertOf z .trip 9 z.allocator.demand)
  have hz : (blockedFrom z .tripped).events = z.events := rfl
  rw [hz] at htrips
  refine ⟨fun hroom => ?_, fun hfull => h.overflow ?_⟩
  · rw [h.trips, trippedFrom_events, EventUnit.count_of_room _ _ (by rw [htrips]; exact hroom), htrips]
  · rw [trippedFrom_events]
    exact EventUnit.count_of_full _ _ (by rw [htrips]; exact hfull)

/-- ALERT TRIP waits at the end of the queue, or was dropped (R83, R85). -/
theorem Behind.alert_queued (h : Behind cfg (trippedFrom z cause) t) :
    t.line.alertQueue.getLast? = some ⟨.alert (alertOf z .trip 9 z.allocator.demand), z.time⟩ ∨
      (4 ≤ t.line.alertQueue.length ∧
        (z.events.counters[EventKind.index .txDropped] < 255 →
          z.events.counters[EventKind.index .txDropped] < t.events.counters[EventKind.index .txDropped])) := by
  rw [h.line, trippedFrom_line]
  rcases alerted_queued (blockedFrom z .tripped) (alertOf z .trip 9 z.allocator.demand) with ⟨hlast, -⟩ | ⟨hfull, hevents⟩
  · exact .inl hlast
  · refine .inr ⟨hfull, fun hroom => Nat.lt_of_lt_of_le ?_ h.dropped⟩
    have hdropped := EventUnit.count_of_room z.events .txDropped hroom
    rw [trippedFrom_events, hevents, EventUnit.count_other _ _ (by decide)]
    show _ < (z.events.count .txDropped).counters[EventKind.index .txDropped]
    omega

/-! ### The trip of a figure set -/

/-- The trips that a figure set reports are those of the neighbours that stand against the station. -/
theorem DeliveredFrom.trips_iff (h : DeliveredFrom s t base cfg r order) (hs : s.station.state ≠ .tripped)
    (hv : cfg.voltSag ≤ t.sampler.figures.voltage) (n : Neighbour) :
    standsAgainst cfg t.sampler n ↔ r.trips n = true := by
  obtain ⟨hovercurrent, htemperature⟩ := h.reported hs
  have hsag : ¬ t.sampler.figures.voltage < cfg.voltSag := Nat.not_lt.mpr hv
  unfold standsAgainst FigureReport.trips
  rw [hovercurrent, htemperature, h.overcurrent, h.overTemperature]
  cases n <;> simp [hsag]

/-- The cause that the first trip takes is one of the figure set. -/
theorem DeliveredFrom.tripCause (h : DeliveredFrom s t base cfg r order) (hs : s.station.state ≠ .tripped)
    (hn : r.trips n = true) :
    tripCauseOf n = .dcOvercurrent ∧ t.sampler.overcurrent = true ∨
      tripCauseOf n = .overTemperature ∧ t.sampler.overTemperature = true := by
  obtain ⟨hovercurrent, htemperature⟩ := h.reported hs
  rw [← h.overcurrent, ← h.overTemperature, ← hovercurrent, ← htemperature]
  cases n <;> simp_all [FigureReport.trips, tripCauseOf]

/-- The state in which a station whose start is due meets its first trip, by the order (R10, R26). -/
theorem Untripped.stateBefore (hy : Untripped base cfg r before y) (hstart : Startable base)
    (hv : cfg.voltSag ≤ base.sampler.figures.voltage)
    (hbefore : ∀ m, actsBefore (deliveryOrder order) m n ↔ m ∈ before) (hn : r.trips n = true) :
    ((∃ m, r.trips m = true ∧ actsBefore (deliveryOrder order) m .controller) → y.station.state = .syncing) ∧
      ((∀ m, r.trips m = true → actsBefore (deliveryOrder order) .controller m) → y.station.state = .starting) := by
  refine ⟨fun ⟨m, hm, hfirst⟩ => ?_, fun hall => ?_⟩
  · have hcontroller : Neighbour.controller ∉ before := fun hin => by
      have hmn : actsBefore (deliveryOrder order) m n := Nat.lt_trans hfirst ((hbefore _).mpr hin)
      exact Bool.noConfusion (hm.symm.trans (hy.noTrip m ((hbefore m).mp hmn)))
    rw [(hy.waiting hstart hv hcontroller).station, hstart.state]
  · rw [(hy.started hstart hv ((hbefore _).mp (hall n hn))).station]
    rfl

/-- Before a trip on a calm grid the line and the events are as the statement has them (R8, R26). -/
theorem tripped_line_of_alike (hy : Alike y u) (hus : u.station = s.station ∧ u.time = s.time ∧ u.line = s.line ∧
    u.events = s.events) (alert : AlertBody) (hoff : s.station.state = .off → v = departedOff s)
    (hother : s.station.state ≠ .off → v = s) :
    (alerted (blockedFrom (departing y) .tripped) alert).line = (alerted v alert).line ∧
      (alerted (blockedFrom (departing y) .tripped) alert).events = (alerted v alert).events := by
  obtain ⟨hstation, htime, hline, hevents⟩ := hus
  have hstate : y.station.state = s.station.state := by rw [hy.station, hstation]
  by_cases ho : s.station.state = .off
  · rw [hoff ho, departing_of_off (hstate.trans ho)]
    refine alerted_congr alert (hy.time.trans htime) ?_ (hy.events.trans hevents)
    show (departedOff y).line = (departedOff s).line
    unfold departedOff
    rw [hy.line, hline]
  · rw [hother ho, departing_of_ne_off (by rw [hstate]; exact ho)]
    exact alerted_congr alert (hy.time.trans htime) (hy.line.trans hline) (hy.events.trans hevents)

end

end Sys2Proof.Machine
end

section
/-! SUPPORT. O30, put together from the delivery of a figure set. -/

namespace Sys2Proof.Machine

section
variable {s t u base : State} {cfg : Configuration} {r : FigureReport} {order : List Neighbour} {tracked : Bool}

theorem figureTaken_fault (v setpoint : Nat) : (figureTaken u cfg v setpoint).fault = u.fault := by
  rw [figureTaken_eq]
  cases figureEntered u.classifier cfg v with
  | none => rfl
  | some e => exact (reacted_frame _ _ _ _).2

/-- SYNCING at a figure set without a trip (R10, R12). -/
theorem DeliveredFrom.syncing_taken (h : DeliveredFrom s t base cfg r order) (hu : Alike u base)
    (hrange : configurationInRange cfg = true) (hstart : Startable base) (hquiet : r.Quiet) :
    Alike t (startedFrom u cfg) ∧ figureTaken u cfg t.sampler.figures.voltage s.allocator.setpoint = u ∧
        cfg.voltSag ≤ t.sampler.figures.voltage ∨
      (figureTaken u cfg t.sampler.figures.voltage s.allocator.setpoint =
          figureHeard u cfg t.sampler.figures.voltage ∧ t.sampler.figures.voltage < cfg.voltSag ∧
        (actsBefore (deliveryOrder order) .classifier .controller ∧
            Alike t (figureHeard u cfg t.sampler.figures.voltage) ∨
          actsBefore (deliveryOrder order) .controller .classifier ∧
            Alike t (blockedFrom (figureHeard (startedFrom u cfg) cfg t.sampler.figures.voltage) .syncing))) := by
  have hustart := hu.startable hstart
  by_cases hv : cfg.voltSag ≤ t.sampler.figures.voltage
  · exact .inl ⟨(h.starts hrange hstart hquiet hv).trans hu.startedFrom.symm,
      figureTaken_of_quiet _ hustart.classifier hv, hv⟩
  · refine .inr ⟨figureTaken_of_idle (by rw [hustart.state]; rfl) _ _, Nat.not_le.mp hv, ?_⟩
    rcases h.held_back hrange hstart hquiet (Nat.not_le.mp hv) with ⟨hfirst, ht⟩ | ⟨hfirst, ht⟩
    · exact .inl ⟨hfirst, ht.trans (hu.figureHeard _).symm⟩
    · exact .inr ⟨hfirst, ht.trans ((hu.startedFrom.figureHeard _).blockedFrom _).symm⟩

/-- The figure set's events at a station in STOPPING are the classifier's own (R65, R71). -/
theorem figureTaken_events_of_stopping (hs : u.station.state = .stopping) (v setpoint : Nat) :
    (figureTaken u cfg v setpoint).events = (figureHeard u cfg v).events := by
  rcases figureTaken_of_stopping (cfg := cfg) hs v setpoint with heq | heq <;> rw [heq]
  exact (arrivedFrom_events _ _).1

theorem arrivedFrom_setpoint (h : u.station.destination ≠ none) :
    (arrivedFrom u cfg).allocator.setpoint = 0 ∧ (arrivedFrom u cfg).station.state.firing = false := by
  unfold arrivedFrom
  split
  · exact absurd ‹_› h
  · exact ⟨rfl, rfl⟩
  · exact ⟨rfl, rfl⟩

theorem deliveryOrder_early (hb : r.boundary = none ↔ tracked = false) (hw : wholeOrder order = true) :
    (r.boundary ≠ none ∧ actsBefore (deliveryOrder order) .regulator .classifier) ↔
      (tracked = true ∧ actsBefore order .regulator .classifier) := by
  rw [deliveryOrder_of_whole hw, Ne, hb, Bool.not_eq_false]

/-! ### A trip at the part before the boundary -/

theorem DeliveredFrom.base_fault (h : DeliveredFrom s t base cfg r order) : base.fault = s.fault := by rw [h.supplied]
theorem DeliveredFrom.base_events (h : DeliveredFrom s t base cfg r order) : base.events = s.events := by rw [h.supplied]
theorem DeliveredFrom.base_time (h : DeliveredFrom s t base cfg r order) : base.time = s.time := by rw [h.supplied]
theorem DeliveredFrom.base_line (h : DeliveredFrom s t base cfg r order) : base.line = s.line := by rw [h.supplied]

/-- The first trip of a figure set: taken at the neighbour `n` by the part `y`, behind the neighbours `before`. -/
structure TripTaken (t base : State) (cfg : Configuration) (r : FigureReport) (order before : List Neighbour)
    (n : Neighbour) (y : State) : Prop where
  trips : r.trips n = true
  untripped : Untripped base cfg r before y
  before_iff : ∀ m, actsBefore (deliveryOrder order) m n ↔ m ∈ before
  behind : Behind cfg (trippedFrom (departing y) (tripCauseOf n)) (base.deliver cfg r order)
  laterTrips : (base.deliver cfg r order).fault.laterTrips =
    if t.sampler.overcurrent = true ∧ t.sampler.overTemperature = true then 1 else 0

theorem DeliveredFrom.trip_taken (h : DeliveredFrom s t base cfg r order) (hrange : configurationInRange cfg = true)
    (hsound : s.FaultSound)
    (hs : s.station.state ≠ .tripped) (hu : s.station.state ≠ .unconfigured)
    (hreported : t.sampler.overcurrent = true ∨ t.sampler.overTemperature = true) :
    ∃ n before y, TripTaken t base cfg r order before n y := by
  have hnone : base.fault.picture = none := by
    rw [h.base_fault]
    exact not_not.mp fun hne => hs (hsound.1.mp hne)
  obtain ⟨hovercurrent, htemperature⟩ := h.reported hs
  rw [h.overcurrent] at hovercurrent
  rw [h.overTemperature] at htemperature
  obtain ⟨n, before, y, hn, hy, hbefore, hx, hlater⟩ := base.deliver_trips (r := r) (order := order) hrange
    (by rw [h.base_station]; exact ⟨hs, hu⟩) hnone (by rw [hovercurrent, htemperature]; exact hreported)
  rw [hovercurrent, htemperature] at hlater
  exact ⟨n, before, y, hn, hy, hbefore, hx, hlater⟩

section
variable {before : List Neighbour} {n : Neighbour} {y v : State}
variable (h' : TripTaken t base cfg r order before n y) (h : DeliveredFrom s t base cfg r order)
include h' h

theorem TripTaken.figures : (departing y).sampler.figures = t.sampler.figures := by
  rw [departing_sampler, h'.untripped.sampler, h.figures]

theorem TripTaken.time : (departing y).time = s.time := by
  rw [departing_time, h'.untripped.time, h.base_time]

theorem TripTaken.alertOf_eq :
    alertOf (departing y) .trip 9 (departing y).allocator.demand = alertOf t .trip 9 s.allocator.demand := by
  have hdemand : (departing y).allocator.demand = s.allocator.demand := by
    rw [departing_allocator, h'.untripped.untouched.demand, h.base_allocator]
    rfl
  unfold alertOf
  rw [h'.figures h, hdemand]

theorem TripTaken.alike_of_calm (hnormal : s.classifier.state = .normal)
    (hv : cfg.voltSag ≤ t.sampler.figures.voltage) (hsync : s.station.state ≠ .syncing)
    (hstop : s.station.state ≠ .stopping) : Alike y base :=
  h'.untripped.calm ⟨by rw [h.base_classifier, hnormal], by rw [h.figures]; exact hv,
    by rw [h.base_station]; exact hsync, by rw [h.base_station]; exact hstop⟩

/-- The record that the trip leaves (R180, R181). -/
theorem TripTaken.fault : t.fault = ⟨some (pictureOf (departing y) (tripCauseOf n)),
    if t.sampler.overcurrent = true ∧ t.sampler.overTemperature = true then 1 else 0⟩ := by
  rw [h.alike_behind.fault, ← h'.laterTrips, ← show
    (trippedFrom (departing y) (tripCauseOf n)).fault.picture = some (pictureOf (departing y) (tripCauseOf n)) from rfl,
    ← h'.behind.picture]

theorem TripTaken.picture_figures :
    (pictureOf (departing y) (tripCauseOf n)).current = t.sampler.figures.current ∧
      (pictureOf (departing y) (tripCauseOf n)).voltage = t.sampler.figures.voltage ∧
      (pictureOf (departing y) (tripCauseOf n)).sink = t.sampler.figures.sink ∧
      (pictureOf (departing y) (tripCauseOf n)).tracker = s.tracker.state := by
  have hfigures := h'.figures h
  refine ⟨congrArg Figures.current hfigures, congrArg Figures.voltage hfigures, congrArg Figures.sink hfigures, ?_⟩
  show (departing y).tracker.state = _
  rw [departing_tracker, h'.untripped.tracker, h.trackerState]

/-- On a calm grid the picture shows the station as the boundary found it (R180). -/
theorem TripTaken.picture_of_calm (hnormal : s.classifier.state = .normal)
    (hv : cfg.voltSag ≤ t.sampler.figures.voltage) (hsync : s.station.state ≠ .syncing)
    (hstop : s.station.state ≠ .stopping) :
    (pictureOf (departing y) (tripCauseOf n)).stateBefore = s.station.state ∧
      (pictureOf (departing y) (tripCauseOf n)).setpoint = (suppliedAllocator s t.sampler).setpoint ∧
      (pictureOf (departing y) (tripCauseOf n)).contextDepth = s.station.stack.length := by
  have halike := h'.alike_of_calm h hnormal hv hsync hstop
  have hstation : (departing y).station = s.station := by rw [departing_station, halike.station, h.base_station]
  have hallocator : (departing y).allocator = suppliedAllocator s t.sampler := by
    rw [departing_allocator, halike.allocator, h.base_allocator]
  exact ⟨congrArg Station.state hstation, congrArg Allocator.setpoint hallocator,
    congrArg (fun st : Station => st.stack.length) hstation⟩

/-- In SYNCING with the start due the picture shows whether the station has started before the trip (R10, R180). -/
theorem TripTaken.picture_of_start (hfits : s.station.StackFits) (hsync : s.station.state = .syncing)
    (hnormal : s.classifier.state = .normal) (hlocked : s.tracker.state = .locked)
    (hv : cfg.voltSag ≤ t.sampler.figures.voltage) (hw : wholeOrder order = true) :
    ((∃ m, standsAgainst cfg t.sampler m ∧ actsBefore order m .controller) →
        (pictureOf (departing y) (tripCauseOf n)).stateBefore = .syncing) ∧
      ((∀ m, standsAgainst cfg t.sampler m → actsBefore order .controller m) →
        (pictureOf (departing y) (tripCauseOf n)).stateBefore = .starting) := by
  have hstart : Startable base := ⟨by rw [h.base_station, hsync], by rw [h.trackerState, hlocked],
    by rw [h.base_classifier, hnormal], by rw [h.base_station]; exact hfits⟩
  have hstate : (pictureOf (departing y) (tripCauseOf n)).stateBefore = y.station.state :=
    congrArg Station.state (departing_station y)
  have hbefore := h'.untripped.stateBefore (order := order) hstart (by rw [h.figures]; exact hv) h'.before_iff h'.trips
  rw [deliveryOrder_of_whole hw] at hbefore
  simp only [hstate, h.trips_iff (by rw [hsync]; decide) hv]
  exact hbefore

theorem TripTaken.station :
    t.station = enteredStation .tripped s.time ∧ t.allocator.setpoint = 0 ∧ t.gates.Blocked := by
  obtain ⟨-, -, -, hstation, hsetpoint⟩ := trippedFrom_frame (departing y) (tripCauseOf n)
  have halike := h.alike_behind
  refine ⟨?_, ?_, by rw [h.gates]; exact h'.behind.blocked⟩
  · rw [h.station, h'.behind.station, hstation, h'.time h]
  · rw [halike.allocator, h'.behind.allocator, hsetpoint]

theorem TripTaken.counted :
    (s.events.counters[EventKind.index .trip] < 255 →
        t.events.counters[EventKind.index .trip] = s.events.counters[EventKind.index .trip] + 1) ∧
      (255 ≤ s.events.counters[EventKind.index .trip] → t.events.overflow[EventKind.index .trip] = true) := by
  have hcounts : (departing y).events.counters[EventKind.index .trip] = s.events.counters[EventKind.index .trip] := by
    rw [departing_events, h'.untripped.untouched.trips, h.base_events]
  rw [h.alike_behind.events, ← hcounts]
  exact h'.behind.trip_counted

/-- ALERT TRIP waits at the end of the queue, or was dropped (R83, R85). -/
theorem TripTaken.alert_queued :
    t.line.alertQueue.getLast? = some ⟨.alert (alertOf t .trip 9 s.allocator.demand), s.time⟩ ∨
      (4 ≤ t.line.alertQueue.length ∧
        (s.events.counters[EventKind.index .txDropped] < 255 →
          s.events.counters[EventKind.index .txDropped] < t.events.counters[EventKind.index .txDropped])) := by
  have hdropped : s.events.counters[EventKind.index .txDropped] ≤
      (departing y).events.counters[EventKind.index .txDropped] := by
    rw [departing_events, ← h.base_events]
    exact h'.untripped.untouched.dropped
  have hkept : (departing y).events.counters[EventKind.index .txDropped] ≤
      (base.deliver cfg r order).events.counters[EventKind.index .txDropped] := by
    refine Nat.le_trans ?_ h'.behind.dropped
    exact trippedFrom_dropped (departing y) (tripCauseOf n)
  have hqueued := h'.behind.alert_queued
  rw [h'.alertOf_eq h, h'.time h] at hqueued
  rw [h.alike_behind.line, h.alike_behind.events]
  refine hqueued.imp id fun ⟨hlength, hroom⟩ => ⟨hlength, fun hless => ?_⟩
  by_cases hfull : (departing y).events.counters[EventKind.index .txDropped] < 255
  · exact Nat.lt_of_le_of_lt hdropped (hroom hfull)
  · exact Nat.lt_of_lt_of_le hless ((Nat.not_lt.mp hfull).trans hkept)

/-- On a calm grid the trip is all that the line and the counters show (R8, R26). -/
theorem TripTaken.line_of_calm (hnormal : s.classifier.state = .normal)
    (hv : cfg.voltSag ≤ t.sampler.figures.voltage) (hsync : s.station.state ≠ .syncing)
    (hstop : s.station.state ≠ .stopping) (hoff : s.station.state = .off → v = departedOff s)
    (hother : s.station.state ≠ .off → v = s) :
    t.line = (alerted v (alertOf t .trip 9 s.allocator.demand)).line ∧
      t.events = (Machine.counted (alerted v (alertOf t .trip 9 s.allocator.demand)) [.trip]).events := by
  have halike := h'.alike_of_calm h hnormal hv hsync hstop
  obtain ⟨hline, hevents⟩ := tripped_line_of_alike (v := v) halike
    ⟨h.base_station, h.base_time, h.base_line, h.base_events⟩ (alertOf t .trip 9 s.allocator.demand) hoff hother
  obtain ⟨-, hquiet⟩ := h'.behind.quiet
    (by rw [(trippedFrom_frame _ _).2.2.1, departing_classifier, halike.classifier, h.base_classifier, hnormal])
    (by rw [(trippedFrom_frame _ _).2.1, h'.figures h]; exact hv)
  refine ⟨?_, ?_⟩
  · rw [h.alike_behind.line, h'.behind.line, trippedFrom_line, h'.alertOf_eq h, hline]
  · rw [h.alike_behind.events, hquiet, trippedFrom_events, h'.alertOf_eq h, hevents]
    rfl

end

end

/-- Settles O30: the neighbours' turns by induction over the order, up to the parts that the classifier and the station do
not see. -/
theorem figureSetMovesClassifierAndStation : Obligations.FigureSetMovesClassifierAndStation := by
  intro s t u cfg c order tracked hc hrange hfits hcomes hexec hu
  obtain ⟨base, r, hb, h⟩ := boundaryComes_delivered hc hcomes hexec
  have hub : Alike u base := h.alike hu
  have hclassifier : t.classifier = (figureTaken u cfg t.sampler.figures.voltage s.allocator.setpoint).classifier := by
    rw [h.alike_behind.classifier, State.deliver_classifier hrange, h.figures]
    exact figureTaken_classifier_congr _ _ _ hub.classifier.symm hub.time.symm hub.tracker.symm
  obtain ⟨hustation, hutime, huline, hufault⟩ :
      u.station = s.station ∧ u.time = s.time ∧ u.line = s.line ∧ u.fault = s.fault := by
    rw [hu]
    exact ⟨rfl, rfl, rfl, rfl⟩
  refine ⟨hclassifier, fun hnone hsync hstop => ?_, fun hnone hs hnormal hlocked => ?_,
    fun hnone hs hzero hcurrent => ?_, fun hsound hs hunconfigured hreported => ?_, fun hsound hs => ?_⟩
  · classical
    have hsettled := h.settled hsync hstop
    have htaken := h.settled_taken hub hrange hfits (h.noReport hnone) hsettled
      (if r.boundary ≠ none ∧ actsBefore (deliveryOrder order) .regulator .classifier then t.regulator.integrator
        else s.regulator.integrator)
      (fun hboundary hfirst => if_pos ⟨hboundary, hfirst⟩)
      (fun hlate => if_neg fun ⟨hboundary, hfirst⟩ => hlate.elim hboundary fun hnot => hnot hfirst)
    refine ⟨_, _, ?_, fun hw => ?_, rfl, htaken.classifier, htaken.station, htaken.allocator, htaken.line,
      htaken.events, ?_, htaken.mode⟩
    · split
      · exact .inr rfl
      · exact .inl rfl
    · exact if_congr (deliveryOrder_early hb hw) rfl rfl
    · rw [htaken.fault, figureTaken_fault, ← hufault]
  · have hstart : Startable base := ⟨by rw [h.base_station, hs], by rw [h.trackerState, hlocked],
      by rw [h.base_classifier, hnormal], by rw [h.base_station]; exact hfits⟩
    rcases h.syncing_taken hub hrange hstart (h.noReport hnone) with ⟨ht, htaken, hv⟩ | ⟨htaken, hv, hcases⟩
    · rw [htaken]
      exact ⟨ht.events, ht.line.trans huline, ht.fault.trans hufault,
        fun _ => ⟨ht.station.trans (congrArg (enteredStation .starting) hutime), ht.allocator, ht.mode⟩,
        fun hsag => absurd hsag (Nat.not_lt.mpr hv)⟩
    · rw [htaken]
      have hkept : t.events = (figureHeard u cfg t.sampler.figures.voltage).events ∧ t.line = s.line ∧
          t.fault = s.fault := by
        rcases hcases with ⟨-, ht⟩ | ⟨-, ht⟩ <;> exact ⟨ht.events, ht.line.trans huline, ht.fault.trans hufault⟩
      refine ⟨hkept.1, hkept.2.1, hkept.2.2, fun hquiet => absurd hquiet (Nat.not_le.mpr hv), fun _ hw => ?_⟩
      rw [deliveryOrder_of_whole hw] at hcases
      rcases hcases with ⟨hfirst, ht⟩ | ⟨hfirst, ht⟩
      · exact ⟨fun _ => ⟨ht.station.trans hustation, ht.allocator⟩, fun hlast => absurd hlast (Nat.lt_asymm hfirst)⟩
      · exact ⟨fun hlast => absurd hlast (Nat.lt_asymm hfirst),
          fun _ => ⟨ht.station.trans (congrArg (enteredStation .syncing) hutime), ht.allocator⟩⟩
  · have hfiring : s.station.state.firing = true := by rw [hs]; rfl
    have hstopped : Stopped cfg base := by
      refine ⟨by rw [h.base_station, hs], ?_, by rw [h.figures]; exact hcurrent, by rw [h.base_station]; exact hfits⟩
      rw [h.base_allocator, suppliedAllocator, if_pos hfiring]
      exact hzero
    have ht := (h.arrived hrange hstopped (h.noReport hnone)).trans (hub.figureHeard _).arrivedFrom.symm
    have ht' := ht.trans (figureHeard_arrivedFrom u cfg _).symm
    refine ⟨ht'.station, ht'.line, ht'.allocator, ht'.fault.trans ((arrivedFrom_events _ _).2.trans hufault),
      ht.events.trans ((arrivedFrom_events _ _).1.trans
        (figureTaken_events_of_stopping (by rw [hustation, hs]) _ _).symm), fun hdest => ?_⟩
    obtain ⟨hsetpoint, hidle⟩ := arrivedFrom_setpoint (u := u) (cfg := cfg) (by rw [hustation]; exact hdest)
    have hblocked : t.gates.Blocked := by
      rw [h.gates]
      refine State.deliver_blocked hrange (by rw [h.base_station, hfiring]) ?_
      rw [← h.station, ht'.station]
      exact hidle
    exact ⟨(congrArg Allocator.setpoint ht'.allocator).trans hsetpoint, hblocked.mode, hblocked.firings,
      fun g => hblocked.output g⟩
  · obtain ⟨n, before, y, htrip⟩ := h.trip_taken hrange hsound hs hunconfigured hreported
    obtain ⟨hcurrent, hvoltage, hsink, htracker⟩ := htrip.picture_figures h
    obtain ⟨hstation, hsetpoint, hblocked⟩ := htrip.station h
    obtain ⟨hroom, hfull⟩ := htrip.counted h
    exact ⟨pictureOf (departing y) (tripCauseOf n), htrip.fault h, h.tripCause hs htrip.trips, hcurrent, hvoltage, hsink,
      htracker, fun hnormal hv hsync hstop => htrip.picture_of_calm h hnormal hv hsync hstop,
      fun hsync hnormal hlocked hv hw => htrip.picture_of_start h hfits hsync hnormal hlocked hv hw,
      hstation, hsetpoint, hblocked.mode, hblocked.firings, fun g => hblocked.output g, hroom, hfull,
      htrip.alert_queued h,
      fun hnormal hv hsync hstop v hoff hother => htrip.line_of_calm h hnormal hv hsync hstop hoff hother⟩
  · obtain ⟨hstation, hfault⟩ := State.deliver_of_tripped (r := r) (order := order) hrange
      (by rw [h.base_station, hs]) (by rw [h.base_fault]; exact hsound.2.1)
    have hreport (now was : Bool) : tripReported now was s.station.state = true ↔ now = true ∧ was = false := by
      simp [tripReported, hs]
    rw [h.station, hstation, h.base_station, h.alike_behind.fault, hfault, h.base_fault,
      h.overcurrentReport, h.overTemperatureReport, Nat.add_assoc]
    simp only [hreport]
    trivial

end Sys2Proof.Machine
end

section
/-! SUPPORT. What the tracker holds, through every step (R31 to R38, R43, R49, R50). Five commands alone touch the tracker, the
timing mode or the configuration; each of the others leaves all three. -/

namespace Sys2Proof.Machine

/-! ### Commands that leave tracker and timing alone -/

/-- Tracker, timing mode and configuration are as before: all that the tracker's invariant sees. -/
structure SameTiming (s t : State) : Prop where
  tracker : t.tracker = s.tracker
  mode : t.sampler.mode = s.sampler.mode
  config : t.port.config = s.port.config

theorem State.TrackerSound.congr {s t : State} (hs : s.TrackerSound) (h : SameTiming s t) : t.TrackerSound := by
  simpa only [State.TrackerSound, h.tracker, h.mode, h.config] using hs

section
variable {s t : State} {cfg : Configuration}

theorem SameTiming.refl : SameTiming s s := ⟨rfl, rfl, rfl⟩

theorem SameTiming.of_frame (htracker : t.tracker = s.tracker) (hsampler : t.sampler = s.sampler)
    (hport : t.port = s.port) : SameTiming s t := ⟨htracker, by rw [hsampler], by rw [hport]⟩

theorem SameTiming.ite {p : Prop} [Decidable p] {u : State} (ht : SameTiming s t) (hu : SameTiming s u) :
    SameTiming s (if p then t else u) := by
  split
  · exact ht
  · exact hu

theorem SameTiming.configured (f : Configuration → State) (hf : ∀ cfg, SameTiming s (f cfg)) :
    SameTiming s (s.configured f) := by
  unfold State.configured
  split
  · exact .refl
  · exact hf _

/-- A command that needs the configuration and acts when its event has come about. -/
theorem SameTiming.whenDue (due : Configuration → Bool) (act : Configuration → State)
    (hact : ∀ cfg, SameTiming s (act cfg)) :
    SameTiming s (s.configured fun cfg => if due cfg then act cfg else s) :=
  .configured _ fun cfg => .ite (hact cfg) .refl

theorem SameTiming.answer (h : SameTiming s t) (r : Response) : SameTiming s (t.answer r) :=
  ⟨h.tracker, h.mode, h.config⟩

theorem SameTiming.takeConfigured (f : Configuration → State) (hf : ∀ cfg, SameTiming s (f cfg)) :
    SameTiming s (s.takeConfigured f) := by
  unfold State.takeConfigured
  split
  · exact SameTiming.refl.answer _
  · exact hf _

theorem SameTiming.takeStart : SameTiming s (s.takeStart cfg) := by
  unfold State.takeStart
  split <;> exact .answer (.of_frame (by simp) (by simp) (by simp)) _

theorem SameTiming.takeStop : SameTiming s (s.takeStop cfg) := by
  unfold State.takeStop
  split <;> exact .answer (.of_frame (by simp) (by simp) (by simp)) _

theorem SameTiming.takeStandby : SameTiming s (s.takeStandby cfg) := by
  unfold State.takeStandby
  split <;> exact .answer (.of_frame (by simp) (by simp) (by simp)) _

theorem SameTiming.takeClearFault : SameTiming s (s.takeClearFault cfg) := by
  unfold State.takeClearFault
  (repeat' split) <;> exact .answer (.of_frame (by simp) (by simp) (by simp)) _

theorem SameTiming.takeForgetPeer (n : Nat) : SameTiming s (s.takeForgetPeer cfg n) := by
  unfold State.takeForgetPeer
  (repeat' split) <;> exact .answer (.of_frame (by simp) (by simp) (by simp)) _

theorem SameTiming.takeAckEvents (pairs : List (Nat × Nat)) : SameTiming s (s.takeAckEvents pairs) := by
  unfold State.takeAckEvents
  split <;> exact .answer (.of_frame (by simp) (by simp) (by simp)) _

theorem SameTiming.judge (h : SameTiming s t) (message : List Byte) : SameTiming s (t.judge message) := by
  unfold State.judge State.judgeComplete
  (repeat' split) <;> exact ⟨h.tracker, h.mode, h.config⟩

/-- The Sampling Unit after a boundary of either mode, whatever the neighbours do (R46, R52, R56). -/
theorem State.takeBoundary_sampler (boundary : Option Boundary) (start : Micros) (base : Nat) (plant : PlantInputs)
    (order : List Neighbour) :
    (s.takeBoundary cfg boundary start base plant order).sampler =
      (s.sampler.closeSector cfg).nextSector cfg start base plant := by
  simp [State.takeBoundary, State.formFigureSet]

theorem State.takeBoundary_mode (boundary : Option Boundary) (start : Micros) (base : Nat) (plant : PlantInputs)
    (order : List Neighbour) :
    (s.takeBoundary cfg boundary start base plant order).sampler.mode = s.sampler.mode := by
  rw [State.takeBoundary_sampler, Sampler.nextSector_mode]
  rfl

theorem SameTiming.freeBoundary (plant : PlantInputs) (order : List Neighbour) :
    SameTiming s (s.freeBoundary cfg plant order) := by
  refine ⟨by simp, ?_, by simp⟩
  unfold State.freeBoundary
  split
  · rfl
  · rw [State.takeBoundary_mode]
    rfl

/-- The passing of time and every command but five leave tracker and timing mode alone. -/
theorem exec_sameTiming (c : Instr) (hexec : exec c s = .next t) (hreset : c ≠ .powerOnReset)
    (hload : ∀ plant, c ≠ .loadConfig plant) (hcapture : c ≠ .capture) (hloss : c ≠ .lossOfSync)
    (hboundary : ∀ plant order, c ≠ .sectorBoundary plant order) : SameTiming s t := by
  cases c <;> obtain rfl := Host.Outcome.next.inj hexec
  case powerOnReset => exact absurd rfl hreset
  case loadConfig plant => exact absurd rfl (hload plant)
  case capture => exact absurd rfl hcapture
  case lossOfSync => exact absurd rfl hloss
  case sectorBoundary plant order => exact absurd rfl (hboundary plant order)
  case srst =>
    refine ⟨by simp, by simp, ?_⟩
    unfold State.supervisorReset State.configured
    dsimp only
    split <;> simp [SupervisorPort.supervisorReset]
  case transferStart =>
    refine .ite ⟨rfl, rfl, ?_⟩ .refl
    unfold SupervisorPort.beginTransfer
    split <;> rfl
  case transferEnd =>
    split
    · exact .refl
    · have hended : SameTiming s (s.setPort { s.port with transfer := none, sdo := [] }) := ⟨rfl, rfl, rfl⟩
      exact hended.judge _
  case setDemand =>
    split
    · exact .takeConfigured _ fun _ => .answer (.of_frame (by simp) (by simp) (by simp)) _
    · exact .refl
  case readStatus => exact .ite ⟨rfl, rfl, rfl⟩ .refl
  case start => exact .ite (.takeConfigured _ fun _ => .takeStart) .refl
  case stop => exact .ite (.takeConfigured _ fun _ => .takeStop) .refl
  case standby => exact .ite (.takeConfigured _ fun _ => .takeStandby) .refl
  case clearFault => exact .ite (.takeConfigured _ fun _ => .takeClearFault) .refl
  case readPeer =>
    split
    · exact .takeConfigured _ fun _ => SameTiming.refl.answer _
    · exact .refl
  case forgetPeer =>
    split
    · exact .takeConfigured _ fun _ => .takeForgetPeer _
    · exact .refl
  case readEvents => exact .ite (.takeConfigured _ fun _ => SameTiming.refl.answer _) .refl
  case ackEvents =>
    split
    · exact .takeConfigured _ fun _ => .takeAckEvents _
    · exact .refl
  case readFault => exact .ite (.takeConfigured _ fun _ => SameTiming.refl.answer _) .refl
  case freeRunningBoundary plant order => exact .whenDue (fun _ => s.freeBoundaryDue) _ fun _ => .freeBoundary plant order
  case sample plant => exact .whenDue (fun _ => s.sampleDue) _ fun _ => ⟨rfl, rfl, rfl⟩
  case recoveryConfirmTimerExpiry => exact .whenDue s.confirmDue _ fun _ => .of_frame (by simp) (by simp) (by simp)
  case frequencyTimerExpiry => exact .whenDue s.frequencyTimerDue _ fun _ => .of_frame (by simp) (by simp) (by simp)
  case blockedTimerExpiry => exact .whenDue s.blockedTimerDue _ fun _ => .of_frame (by simp) (by simp) (by simp)
  case lowLoadTimerExpiry => exact .whenDue s.lowLoadDue _ fun _ => .of_frame (by simp) (by simp) (by simp)
  case shareUpdate => exact .whenDue (fun _ => s.shareDue) _ fun _ => .of_frame (by simp) (by simp) (by simp)
  case protectionEdge n level =>
    refine .ite .refl ?_
    rcases s.takeSample_cases n level with heq | ⟨cfg, -, -, heq⟩ <;> rw [heq] <;>
      exact .of_frame (by simp) (by simp) (by simp)
  case firing => exact .whenDue (fun _ => s.firingDue) _ fun _ => .of_frame (by simp) (by simp) (by simp)
  case pulseEnd g => exact .ite ⟨rfl, rfl, rfl⟩ .refl
  case seekingEnd => exact .ite ⟨rfl, rfl, rfl⟩ .refl
  case lineBusy => exact .ite ⟨rfl, rfl, rfl⟩ .refl
  case interframeGapEnd => exact .ite ⟨rfl, rfl, rfl⟩ .refl
  case frameAbandoned =>
    refine .configured _ fun _ => ?_
    split
    · exact .refl
    · exact .ite (.of_frame (by simp) (by simp) (by simp)) .refl
  case frameReceived xs =>
    exact .whenDue (fun _ => s.line.receiving) _ fun _ => .of_frame (by simp) (by simp) (by simp)
  case accessSlot => exact .configured _ fun _ => .ite ⟨rfl, rfl, rfl⟩ .refl
  case frameCompleted => exact .ite ⟨rfl, rfl, rfl⟩ .refl
  case collision xs =>
    refine .configured _ fun _ => ?_
    split
    · exact .refl
    · exact .ite (.of_frame (by simp) (by simp) (by simp)) .refl
  case alertExpiry => exact .ite (.of_frame (by simp) (by simp) (by simp)) .refl
  case peerSilent n =>
    exact .whenDue (fun cfg => s.silentDue cfg n) _ fun _ => .of_frame (by simp) (by simp) (by simp)
  case peerLost n =>
    exact .whenDue (fun cfg => s.lostDue cfg n) _ fun _ => .of_frame (by simp) (by simp) (by simp)
  case srstRelease => exact ⟨rfl, rfl, rfl⟩

/-! ### The commands that move the tracker -/

/-- The test of R30 in the words of the invariant. -/
theorem plausible_iff (cfg : Configuration) (x : Nat) : plausible cfg x = true ↔ PlausibleInterval cfg x := by
  simp [plausible]

/-- A configured part with an UNLOCKED or ACQUIRING tracker, in the invariant's words (R31 to R33). -/
theorem State.TrackerSound.acquiring (hc : t.port.config = some cfg) (hk : t.tracker.state = .acquiring)
    (hanchor : t.tracker.anchor ≠ none) (hacquired : t.tracker.acquired ≤ 3)
    (hnext : t.tracker.next = none ∧ t.tracker.deadline = none)
    (hlength : t.tracker.intervals.length = t.tracker.acquired)
    (hplausible : ∀ x ∈ t.tracker.intervals, PlausibleInterval cfg x) (hmode : t.sampler.mode ≠ .tracked) :
    t.TrackerSound := by
  refine ⟨by simp [hc], by simp [hk], fun _ => ⟨hanchor, hacquired⟩, by simp [hk], fun _ => hnext, hlength, ?_,
    by simp [hk, hmode]⟩
  simpa [hc] using hplausible

/-- A configured part with a LOCKED tracker, in the invariant's words (R34 to R38, R50). -/
theorem State.TrackerSound.locked (hc : t.port.config = some cfg) (hk : t.tracker.state = .locked)
    (hanchor : t.tracker.anchor ≠ none) (hnext : t.tracker.next ≠ none) (hdeadline : t.tracker.deadline ≠ none)
    (hacquired : t.tracker.acquired = 4) (hperiod : t.tracker.period = t.tracker.intervals.sum / 4)
    (hlength : t.tracker.intervals.length = t.tracker.acquired)
    (hplausible : ∀ x ∈ t.tracker.intervals, PlausibleInterval cfg x) (hmode : t.sampler.mode = .tracked) :
    t.TrackerSound := by
  refine ⟨by simp [hc], by simp [hk], by simp [hk], fun _ => ⟨hanchor, hnext, hdeadline, hacquired, hperiod⟩,
    by simp [hk], hlength, ?_, by simp [hk, hmode]⟩
  simpa [hc] using hplausible

/-- What a configured part has before lock. -/
theorem State.TrackerSound.before_lock (hs : s.TrackerSound) (hk : s.tracker.state ≠ .locked) :
    (s.tracker.next = none ∧ s.tracker.deadline = none) ∧ s.sampler.mode ≠ .tracked := by
  obtain ⟨-, -, -, -, hidle, -, -, hmode⟩ := hs
  exact ⟨hidle hk, fun h => hk (hmode.mp h)⟩

theorem State.TrackerSound.plausibles (hs : s.TrackerSound) (hc : s.port.config = some cfg) :
    ∀ x ∈ s.tracker.intervals, PlausibleInterval cfg x := by
  obtain ⟨-, -, -, -, -, -, h, -⟩ := hs
  exact h cfg hc

theorem State.TrackerSound.beginRun (hs : s.TrackerSound) (hc : s.port.config = some cfg)
    (hk : s.tracker.state ≠ .locked) : s.beginRun.TrackerSound := by
  obtain ⟨hidle, hmode⟩ := hs.before_lock hk
  exact .acquiring (cfg := cfg) hc rfl (by simp [State.beginRun]) (Nat.zero_le _) hidle rfl
    (by simp [State.beginRun]) hmode

theorem State.TrackerSound.extendRun (hs : s.TrackerSound) (hc : s.port.config = some cfg)
    (hk : s.tracker.state = .acquiring) {interval : Nat} (hi : PlausibleInterval cfg interval) :
    (s.extendRun cfg interval).TrackerSound := by
  obtain ⟨hidle, hmode⟩ := hs.before_lock (by simp [hk])
  have hplausible : ∀ x ∈ s.tracker.intervals ++ [interval], PlausibleInterval cfg x :=
    List.forall_mem_append.mpr ⟨hs.plausibles hc, by simpa using hi⟩
  obtain ⟨-, -, hacquiring, -, -, hlength, -, -⟩ := hs
  obtain ⟨hanchor, hacquired⟩ := hacquiring hk
  unfold State.extendRun
  split
  case isTrue hfour =>
    refine .locked (cfg := cfg) hc rfl (Option.some_ne_none _) (Option.some_ne_none _) (Option.some_ne_none _) rfl rfl ?_
      hplausible rfl
    show (s.tracker.intervals ++ [interval]).length = 4
    simp only [List.length_append, List.length_singleton]
    omega
  case isFalse hfew =>
    refine .acquiring (cfg := cfg) hc hk hanchor (by simp; omega) hidle ?_ hplausible hmode
    simpa using hlength

theorem State.TrackerSound.acquire (hs : s.TrackerSound) (hc : s.port.config = some cfg)
    (hk : s.tracker.state = .acquiring) {interval : Nat} (hi : PlausibleInterval cfg interval) :
    (s.acquire cfg interval).TrackerSound := by
  unfold State.acquire
  split
  · exact hs.extendRun hc hk hi
  · split
    · exact hs.extendRun hc hk hi
    · exact hs.beginRun hc (by simp [hk])

/-- The list of intervals keeps its last four (R37). -/
theorem lastFour_append (l : List Nat) (x : Nat) (hl : l.length = 4) : lastFour (l ++ [x]) = (l ++ [x]).drop 1 := by
  unfold lastFour
  rw [List.length_append, hl]
  rfl

theorem State.TrackerSound.follow (hs : s.TrackerSound) (hc : s.port.config = some cfg)
    (hk : s.tracker.state = .locked) {interval : Nat} (hi : PlausibleInterval cfg interval) :
    (s.follow cfg interval).TrackerSound := by
  have hold := hs.plausibles hc
  obtain ⟨-, -, -, hlocked, -, hlength, -, hmode⟩ := hs
  obtain ⟨-, -, -, hacquired, -⟩ := hlocked hk
  have hlist := lastFour_append s.tracker.intervals interval (hlength.trans hacquired)
  refine State.TrackerSound.congr (s := s.setTracker (s.tracker.lay cfg (s.tracker.newAnchor s.time)
    (lastFour (s.tracker.intervals ++ [interval])) (s.tracker.lastIndex.map fun m => m - 6) s.time)) ?_
    (.of_frame (by simp [State.follow]) (by simp [State.follow]) (by simp [State.follow]))
  rw [hlist]
  refine .locked (cfg := cfg) hc hk (Option.some_ne_none _) (Option.some_ne_none _) (Option.some_ne_none _)
    hacquired rfl ?_ ?_ (hmode.mpr hk)
  · show ((s.tracker.intervals ++ [interval]).drop 1).length = s.tracker.acquired
    simp only [List.length_append, List.length_drop, List.length_singleton]
    omega
  · exact fun x hx => List.forall_mem_append.mpr ⟨hold, by simpa using hi⟩ x (List.mem_of_mem_drop hx)

theorem State.TrackerSound.plausibleCapture (hs : s.TrackerSound) (hc : s.port.config = some cfg) {interval : Nat}
    (hi : PlausibleInterval cfg interval) : (s.plausibleCapture cfg interval).TrackerSound := by
  unfold State.plausibleCapture
  split
  case h_1 hk => exact hs.beginRun hc (by simp [hk])
  case h_2 hk => exact hs.acquire hc hk hi
  case h_3 hk => exact hs.follow hc hk hi

theorem State.TrackerSound.capture (hs : s.TrackerSound) (hc : s.port.config = some cfg) :
    (s.capture cfg).TrackerSound := by
  have hrecorded : (s.setTracker { s.tracker with previous := some s.time }).TrackerSound := hs
  have hjudged : (s.judgeCapture cfg).TrackerSound := by
    unfold State.judgeCapture
    split
    · exact hrecorded
    · split
      · exact hrecorded.plausibleCapture hc ((plausible_iff _ _).mp ‹_›)
      · exact hrecorded
  exact hjudged.congr (.of_frame (by simp [State.capture]) (by simp [State.capture]) (by simp [State.capture]))

/-- A loss frees the tracker and, with it, the sampling (R38, R49). -/
theorem State.TrackerSound.loseSync (hs : s.TrackerSound) (hk : s.tracker.state = .locked) :
    (s.loseSync cfg).TrackerSound := by
  obtain ⟨-, -, -, -, -, -, -, hmode⟩ := hs
  refine State.TrackerSound.congr (s := (s.setTracker s.tracker.lose).setSampler (s.sampler.lossNotice cfg s.time)) ?_
    (.of_frame (by simp [State.loseSync]) (by simp [State.loseSync]) (by simp [State.loseSync]))
  simp [State.TrackerSound, Tracker.lose, Sampler.lossNotice, hmode.mpr hk]

theorem State.TrackerSound.issueBoundary (hs : s.TrackerSound) (hk : s.tracker.state = .locked) (plant : PlantInputs)
    (order : List Neighbour) : (s.issueBoundary cfg plant order).TrackerSound := by
  unfold State.issueBoundary
  split
  · exact hs
  · rename_i b _
    refine State.TrackerSound.congr (s := s.setTracker (s.tracker.issue cfg b s.time)) ?_
      ⟨by simp, State.takeBoundary_mode .., by simp⟩
    obtain ⟨hnone, hunlocked, hacquiring, hlocked, -, hrest⟩ := hs
    obtain ⟨hanchor, -, hdeadline⟩ := hlocked hk
    exact ⟨hnone, hunlocked, hacquiring, fun _ => ⟨hanchor, Option.some_ne_none _, hdeadline⟩,
      fun hne => absurd hk hne, hrest⟩

/-- LOAD CONFIG finds the tracker UNLOCKED and leaves it so, with free-running sampling (R31, R45). -/
theorem State.TrackerSound.load (hs : s.TrackerSound) (hn : s.port.config = none) (plant : PlantInputs) :
    (s.acceptConfiguration cfg plant).TrackerSound := by
  obtain ⟨hnone, hunlocked, -, -, hidle, hlength, -, -⟩ := hs
  have hk := hnone hn
  obtain ⟨hintervals, hanchor⟩ := hunlocked hk
  have hmode : (s.sampler.activate cfg s.time plant).mode = .free := by rw [Sampler.activate_eq]
  simp [State.TrackerSound, State.acceptConfiguration, Tracker.activate, hmode, hidle (by simp [hk]), hintervals, hanchor]
  rw [← hlength, hintervals]
  rfl

theorem State.TrackerSound.takeLoadConfig (hs : s.TrackerSound) (p : List Byte) (plant : PlantInputs) :
    (s.takeLoadConfig p plant).TrackerSound := by
  unfold State.takeLoadConfig
  split
  · exact hs
  · split
    · exact hs
    · split
      · exact hs
      · rename_i hn _ _
        exact hs.load (by simpa using hn) plant

/-- A command that needs the configuration keeps the invariant if its effect does. -/
theorem State.TrackerSound.configured (hs : s.TrackerSound) (f : Configuration → State)
    (hf : ∀ cfg, s.port.config = some cfg → (f cfg).TrackerSound) : (s.configured f).TrackerSound := by
  unfold State.configured
  split
  · exact hs
  · exact hf _ ‹_›

theorem exec_keepsTrackerSound (c : Instr) (hexec : exec c s = .next t) (hs : s.TrackerSound) : t.TrackerSound := by
  cases c
  case powerOnReset =>
    obtain rfl := Host.Outcome.next.inj hexec
    exact (by decide : State.reset.TrackerSound)
  case loadConfig plant =>
    obtain rfl := Host.Outcome.next.inj hexec
    split
    · exact hs.takeLoadConfig _ plant
    · exact hs
  case capture =>
    obtain rfl := Host.Outcome.next.inj hexec
    exact hs.configured _ fun cfg hc => hs.capture hc
  case lossOfSync =>
    obtain rfl := Host.Outcome.next.inj hexec
    refine hs.configured _ fun cfg hc => ?_
    split
    · rename_i hdue
      exact hs.loseSync (of_decide_eq_true (Bool.and_eq_true _ _ ▸ hdue).1)
    · exact hs
  case sectorBoundary plant order =>
    obtain rfl := Host.Outcome.next.inj hexec
    refine hs.configured _ fun cfg hc => ?_
    split
    · rename_i hdue
      exact hs.issueBoundary (of_decide_eq_true (Bool.and_eq_true _ _ ▸ hdue).1) plant order
    · exact hs
  all_goals
    exact hs.congr (exec_sameTiming _ hexec (by simp) (by simp) (by simp) (by simp) (by simp))

end

/-- Settles O51: five commands move the tracker or its timing, each by its own rule, and nothing else touches them. -/
theorem everyStepKeepsTheTrackerSound : Obligations.EveryStepKeepsTheTrackerSound := by
  intro s t _ hs hstep
  unfold step at hstep
  split at hstep
  · obtain rfl := Host.Outcome.next.inj hstep
    unfold State.idle
    split
    · exact hs
    · exact hs.congr (.of_frame (by simp) (by simp) (by simp))
  · exact exec_keepsTrackerSound (s := s.setPending _) _ hstep hs

end Sys2Proof.Machine
end

section
/-! SUPPORT. One microsecond at each count that moves with time, in the words of the statement (R71, R81, R119, R132, R170). -/

namespace Sys2Proof.Machine

/-- A quotient rises by 1 exactly where the next number is a multiple of the divisor. -/
theorem succ_div_sub_div (x d : Nat) : (x + 1) / d - x / d = if (x + 1) % d = 0 then 1 else 0 := by
  rw [Nat.succ_div]
  simp only [Nat.dvd_iff_mod_eq_zero]
  split <;> omega

theorem lastEnvelopeTime_eq (cfg : Configuration) :
    lastEnvelopeTime cfg = (cfg.envelope.getLast?.map EnvelopePoint.time).getD 0 := by
  unfold lastEnvelopeTime
  cases cfg.envelope.getLast? <;> rfl

/-- The elapsed count at the next microsecond: it rises with the millisecond, up to the last point's time (R71). -/
theorem Classifier.elapse_one (c : Classifier) (cfg : Configuration) (now : Micros) :
    c.elapse cfg now 1 = { c with
      elapsed := match c.onset with
        | none => c.elapsed
        | some t0 => c.elapsed.map fun d =>
            if d < (cfg.envelope.getLast?.map EnvelopePoint.time).getD 0 ∧ ((now - t0).toNat + 1) % 1000 = 0
            then d + 1 else d } := by
  obtain ⟨state, active, onset, elapsed, confirm, frequencyTimer, outOfBand, latestFigure⟩ := c
  cases onset with
  | none => rfl
  | some t0 =>
    cases elapsed with
    | none => rfl
    | some d =>
      simp only [Classifier.elapse, ← lastEnvelopeTime_eq, succ_div_sub_div, Option.map_some]
      congr 2
      split_ifs <;> omega

theorem Peer.elapse_one (p : Peer) :
    p.elapse 1 =
      if p.agePhase + 1 < 1000 then { p with age := min 65535 p.age, agePhase := p.agePhase + 1 }
      else { p with
        age := min 65535 (p.age + (p.agePhase + 1) / 1000), agePhase := (p.agePhase + 1) % 1000 } := by
  unfold Peer.elapse advanceMillis
  split
  · rename_i h
    rw [Nat.div_eq_of_lt h, Nat.mod_eq_of_lt h]
    rfl
  · rfl

theorem Allocator.elapse_one (a : Allocator) :
    a.elapse 1 =
      if a.msPhase + 1 < 1000 then { a with msPhase := a.msPhase + 1 }
      else { a with ms := a.ms + BitVec.ofNat 32 ((a.msPhase + 1) / 1000), msPhase := (a.msPhase + 1) % 1000 } := by
  unfold Allocator.elapse
  split
  · rename_i h
    rw [Nat.div_eq_of_lt h, Nat.mod_eq_of_lt h, BitVec.add_zero]
  · rfl

theorem step_empty (s : State) (hp : s.pending = []) : step s = .next s.idle := by
  simp [step, hp]

/-- Settles O2: on an empty queue the part waits for a timed event that is due, and otherwise lets one microsecond pass. -/
theorem emptyQueueLetsOneMicrosecondPass : Obligations.EmptyQueueLetsOneMicrosecondPass := by
  intro s hp
  rw [step_empty s hp]
  unfold State.idle
  refine ⟨fun hdue => by simp [hdue], fun hnot hc => ?_, fun hnot cfg hc => ?_⟩
  · rw [hnot]
    simp only [Bool.false_eq_true, if_false, State.elapse, State.elapseConfigured, State.configured, hc]
    rfl
  · rw [hnot]
    simp only [Bool.false_eq_true, if_false, State.elapse, State.elapseConfigured, State.configured, hc,
      Classifier.elapse_one, Allocator.elapse_one, Peer.elapse_one]
    rfl

end Sys2Proof.Machine
end

section
/-! SUPPORT. The tracker's reports at classifier and station, in the words of the statements (R64 to R70, R72, R74). -/

namespace Sys2Proof.Machine

section
variable {s : State} {cfg : Configuration}

theorem State.countOnset_eq (kind : DisturbanceKind) (entered : ClassifierState) :
    s.countOnset kind entered = counted s (.onset :: ((if entered = .outside then [.block] else []) ++
      (if kind = .frequency then [.freqOut] else []))) := by
  cases entered <;> cases kind <;> rfl

/-- An onset (R65), with a stack that fits the state. -/
theorem State.openDisturbance_eq (kind : DisturbanceKind) (entered : ClassifierState) (setpoint : Nat)
    (h : configurationInRange cfg = true) (hfits : s.station.StackFits) :
    s.openDisturbance cfg kind entered setpoint = onsetOf s cfg kind entered setpoint := by
  unfold State.openDisturbance
  rw [State.report_eq _ _ _ h (by simpa using hfits), State.countOnset_eq]
  cases kind <;> rfl

/-- A PHASE_JUMP report (R67, R70, R74). -/
theorem State.classifyPhaseJump_eq (h : configurationInRange cfg = true) (hfits : s.station.StackFits) :
    s.classifyPhaseJump cfg = phaseTaken s cfg := by
  have honset := State.openDisturbance_eq .phase .disturbed s.allocator.setpoint h hfits
  unfold State.classifyPhaseJump
  cases hc : s.classifier.state
  case inactive => simp [phaseTaken, hc]
  case normal | recovering => simp [phaseTaken, hc, honset]
  case disturbed | outside =>
    simp only [phaseTaken, hc, reduceCtorEq, if_false, or_true, true_or, if_true]
    rw [← hc]
    rfl

/-- A SYNC_LOSS report (R69, R70, R74). -/
theorem State.classifySyncLoss_eq (h : configurationInRange cfg = true) (hfits : s.station.StackFits) :
    s.classifySyncLoss cfg = syncLossTaken s cfg := by
  have honset := State.openDisturbance_eq .sync .outside s.allocator.setpoint h hfits
  have hout := State.goOutside_eq (s := s.joinKind .sync) (cfg := cfg) s.allocator.setpoint h (by simpa using hfits)
  unfold State.classifySyncLoss
  cases hc : s.classifier.state
  case inactive => simp [syncLossTaken, hc]
  case normal | recovering => simp [syncLossTaken, hc, honset]
  case disturbed =>
    simp only [syncLossTaken, hc, reduceCtorEq, if_false, if_true]
    exact hout
  case outside =>
    simp only [syncLossTaken, hc, reduceCtorEq, if_false, if_true]
    rw [← hc]
    rfl

/-- Behind a PHASE_JUMP report no onset is open to the frequency report that follows it (R67, R70). -/
theorem phaseTaken_disturbed (s : State) (cfg : Configuration) :
    (phaseTaken s cfg).classifier.state = .inactive ∨ (phaseTaken s cfg).classifier.state = .disturbed ∨
      (phaseTaken s cfg).classifier.state = .outside := by
  unfold phaseTaken
  cases hc : s.classifier.state <;> simp [hc, onsetOf]

/-- FREQUENCY as it joins a disturbance in progress (R70, R72). -/
def frequencyJoined (s : State) (x : Classifier) : Classifier :=
  { x with
    active := { s.classifier.active with frequency := true }
    frequencyTimer := if s.classifier.state = .disturbed then some s.time else s.classifier.frequencyTimer }

/-- The statements' frequency report, by the figure and the count that the classifier records (R64). -/
theorem frequencyTaken_eq (s : State) (cfg : Configuration) (f : Nat) (x : Classifier)
    (hx : x = s.classifier.recordFigure cfg f) :
    frequencyTaken s cfg f =
      if s.classifier.state = .inactive then s
      else if s.classifier.state = .disturbed ∨ s.classifier.state = .outside then
        if x.outOfBand = 3 ∧ s.classifier.active.frequency = false then
          (s.setClassifier (frequencyJoined s x)).count .freqOut
        else s.setClassifier x
      else if x.outOfBand = 3 then onsetOf (s.setClassifier x) cfg .frequency .disturbed s.allocator.setpoint
      else if s.classifier.state = .recovering ∧ x.outOfBand ≠ 0 then s.setClassifier { x with confirm := some s.time }
      else s.setClassifier x := by
  subst hx
  unfold frequencyTaken
  simp only [← inBand_eq]
  rfl

/-- FREQUENCY joins where the report of R64 finds it missing (R70, R72). -/
theorem State.joinFrequency_eq (x : Classifier) (hstate : x.state = s.classifier.state)
    (hactive : x.active = s.classifier.active) (htimer : x.frequencyTimer = s.classifier.frequencyTimer) :
    (s.setClassifier x).joinFrequency =
      if s.classifier.active.frequency = false then (s.setClassifier (frequencyJoined s x)).count .freqOut
      else s.setClassifier x := by
  unfold State.joinFrequency frequencyJoined
  simp only [State.setClassifier_classifier, State.setClassifier_time, hstate, hactive, htimer]
  cases s.classifier.active.frequency <;> rfl

/-- A frequency report (R64, R68, R70, R72, R74). The stack is asked to fit only where an onset is open. -/
theorem State.classifyFrequency_eq (f : Nat) (h : configurationInRange cfg = true)
    (hfits : s.classifier.state = .normal ∨ s.classifier.state = .recovering → s.station.StackFits) :
    s.classifyFrequency cfg f = frequencyTaken s cfg f := by
  generalize hx : s.classifier.recordFigure cfg f = x
  have hstate : x.state = s.classifier.state := hx ▸ rfl
  have hjoin := s.joinFrequency_eq x hstate (hx ▸ rfl) (hx ▸ rfl)
  have honset (hopen : s.classifier.state = .normal ∨ s.classifier.state = .recovering) :=
    State.openDisturbance_eq (s := s.setClassifier x) (cfg := cfg) .frequency .disturbed s.allocator.setpoint h
      (by simpa using hfits hopen)
  rw [frequencyTaken_eq s cfg f x hx.symm]
  unfold State.classifyFrequency
  rw [hx]
  unfold State.actOnBand
  rw [State.setClassifier_classifier, hstate]
  cases hc : s.classifier.state
  case inactive => rfl
  case normal =>
    simp only [reduceCtorEq, if_false, false_or, false_and]
    split
    · exact honset (.inl hc)
    · rfl
  case recovering =>
    simp only [reduceCtorEq, if_false, false_or, true_and]
    split
    · exact honset (.inr hc)
    · split <;> simp_all [State.restartConfirm, State.setClassifier]
  case disturbed | outside =>
    simp only [reduceCtorEq, if_false, or_true, true_or, if_true, hjoin]
    split <;> simp_all

end
end Sys2Proof.Machine
end

section
/-! SUPPORT. CAPTURE in the words of the statements: the judging of the capture, the schedule laid out by a lock or a
re-anchor, and the reports behind it (R29 to R41). -/

namespace Sys2Proof.Machine

section
variable {s : State} {cfg : Configuration} {p : Micros}

/-! ### The capture's own effect (R29, R30) -/

/-- The capture as the previous one (R30). -/
def captureRecorded (s : State) : State := s.setTracker { s.tracker with previous := some s.time }

theorem plausible_eq_true (interval : Nat) : plausible cfg interval = true ↔ plausibleInterval cfg interval :=
  plausible_iff cfg interval

theorem agrees_eq_true (a b : Nat) : agrees cfg a b = true ↔ 100 * (max a b - min a b) ≤ nominalMicros cfg :=
  decide_eq_true_iff

theorem State.judgeCapture_of_plausible (hp : s.tracker.previous = some p)
    (hi : plausibleInterval cfg (s.time - p).toNat) :
    s.judgeCapture cfg = (captureRecorded s).plausibleCapture cfg (s.time - p).toNat := by
  simp only [State.judgeCapture, State.captureInterval, hp, Option.map_some, (plausible_eq_true _).mpr hi, if_true]
  rfl

theorem State.judgeCapture_of_implausible (h : s.tracker.previous = none ∨
    ∃ p, s.tracker.previous = some p ∧ ¬ plausibleInterval cfg (s.time - p).toNat) :
    s.judgeCapture cfg = captureRecorded s := by
  rcases h with hp | ⟨p, hp, hi⟩
  · simp only [State.judgeCapture, State.captureInterval, hp]
    rfl
  · simp only [State.judgeCapture, State.captureInterval, hp, Option.map_some, if_neg (mt (plausible_eq_true _).mp hi)]
    rfl

/-- A capture is judged, and its figure reported afterwards (R39). -/
theorem exec_capture (u : State) (hc : s.port.config = some cfg) (h : configurationInRange cfg = true)
    (hu : s.judgeCapture cfg = u)
    (hfits : u.classifier.state = .normal ∨ u.classifier.state = .recovering → u.station.StackFits) :
    exec .capture s = .next (frequencyTaken u cfg u.tracker.figure) := by
  rw [← State.classifyFrequency_eq u.tracker.figure h hfits, ← hu]
  simp only [exec, execCapture, State.configured, hc]
  rfl

/-- An interval that agrees with the last of the run, or the first of a run, is appended (R33). -/
theorem State.plausibleCapture_joins {interval : Nat} (hk : s.tracker.state = .acquiring)
    (hjoins : ∀ last, s.tracker.intervals.getLast? = some last →
      100 * (max interval last - min interval last) ≤ nominalMicros cfg) :
    s.plausibleCapture cfg interval = s.extendRun cfg interval := by
  simp only [State.plausibleCapture, hk, State.acquire]
  split
  · rfl
  · rw [if_pos ((agrees_eq_true _ _).mpr (hjoins _ ‹_›))]

/-- An interval that disagrees with the last of the run begins a new one (R33). -/
theorem State.plausibleCapture_breaks {interval last : Nat} (hk : s.tracker.state = .acquiring)
    (hlast : s.tracker.intervals.getLast? = some last)
    (hbreaks : nominalMicros cfg < 100 * (max interval last - min interval last)) :
    s.plausibleCapture cfg interval = s.beginRun := by
  simp only [State.plausibleCapture, hk, State.acquire, hlast]
  rw [if_neg (mt (agrees_eq_true _ _).mp (Nat.not_le.mpr hbreaks))]

theorem State.extendRun_of_few (interval : Nat) (h : s.tracker.acquired < 3) :
    s.extendRun cfg interval = s.setTracker { s.tracker with
      intervals := s.tracker.intervals ++ [interval]
      acquired := s.tracker.acquired + 1 } := if_neg (by omega)

theorem State.extendRun_of_three (interval : Nat) (h : s.tracker.acquired = 3) :
    s.extendRun cfg interval = s.lock cfg (s.tracker.intervals ++ [interval]) := if_pos (by omega)

end

/-- Settles O23: before lock a capture records itself, begins a run, breaks it or joins it. -/
theorem captureBeforeLock : Obligations.CaptureBeforeLock := by
  intro s cfg hc h hfits
  refine ⟨fun himplausible => ?_, fun p hp hi => ⟨fun hbegins => ?_, fun hk hfew hjoins => ?_⟩⟩
  · exact exec_capture (captureRecorded s) hc h (State.judgeCapture_of_implausible himplausible) fun _ => hfits
  · refine exec_capture (captureRecorded s).beginRun hc h ?_ fun _ => hfits
    rw [State.judgeCapture_of_plausible hp hi]
    rcases hbegins with hk | ⟨hk, last, hlast, hbreaks⟩
    · simp [State.plausibleCapture, captureRecorded, hk]
    · exact State.plausibleCapture_breaks (s := captureRecorded s) hk hlast hbreaks
  · refine exec_capture ((captureRecorded s).setTracker { (captureRecorded s).tracker with
      intervals := s.tracker.intervals ++ [(s.time - p).toNat], acquired := s.tracker.acquired + 1 }) hc h ?_
      fun _ => hfits
    rw [State.judgeCapture_of_plausible hp hi, State.plausibleCapture_joins (s := captureRecorded s) hk hjoins]
    exact State.extendRun_of_few (s := captureRecorded s) _ hfew

/-! ### The schedule (R40, R41) -/

/-- A difference of less than half the counter range, as the counter holds it. -/
theorem toNat_ofInt_of_range (x : Int) (h : -(2 ^ 31) ≤ x ∧ x < 2 ^ 31) :
    ((BitVec.ofInt 32 x).toNat : Int) = if 0 ≤ x then x else x + 2 ^ 32 := by
  rw [BitVec.toNat_ofInt]
  split <;> omega

/-- The microseconds by which index 0 of a schedule lies before the capture. -/
def scheduleLag (cfg : Configuration) (period : Nat) (ahead : Int) : Nat := (ahead - scheduleShift cfg period).toNat

/-- The first index whose time is late enough, by whole numbers (R41). -/
theorem ahead_le_scheduled (cfg : Configuration) {period : Nat} (hp : 0 < period) (ahead : Int) (k : Nat) :
    ahead ≤ scheduled cfg period k ↔ (6 * scheduleLag cfg period ahead + period - 1) / period ≤ k := by
  have hshift : scheduled cfg period k = scheduleShift cfg period + (k * period / 6 : Nat) := rfl
  have hceil : (6 * scheduleLag cfg period ahead + period - 1) / period ≤ k ↔
      6 * scheduleLag cfg period ahead ≤ k * period := by
    rw [← Nat.lt_succ_iff, Nat.div_lt_iff_lt_mul hp, Nat.succ_mul k]
    omega
  rw [hceil, hshift]
  unfold scheduleLag
  generalize k * period = x
  omega

theorem firstOpenIndex_le (last : Option Int) (k : Nat) : firstOpenIndex last ≤ k ↔ ∀ l ∈ last, l < (k : Int) := by
  cases last with
  | none => simp [firstOpenIndex]
  | some l =>
    simp only [firstOpenIndex, Option.mem_some_iff, forall_eq']
    omega

/-- The model's least index, by the microseconds that index 0 lies before the capture (R41). -/
theorem leastIndex_eq (cfg : Configuration) (anchor t : Micros) {period : Nat} (hp : 0 < period) (ahead : Int)
    (start : Nat) (ht : t - anchor = BitVec.ofInt 32 ahead)
    (hrange : -(2 ^ 31) ≤ scheduleShift cfg period - ahead ∧ scheduleShift cfg period - ahead < 2 ^ 31) :
    leastIndex cfg anchor period t start = max start ((6 * scheduleLag cfg period ahead + period - 1) / period) := by
  generalize hx : scheduleShift cfg period - ahead = x at hrange
  have hfirst : boundaryTime cfg anchor period 0 - t = BitVec.ofInt 32 x := by
    rw [← hx, sub_eq_add_neg (scheduleShift cfg period), BitVec.ofInt_add, BitVec.ofInt_neg, ← ht]
    simp only [boundaryTime, Nat.zero_mul, Nat.zero_div, Int.natCast_zero, Int.add_zero]
    ring
  have hback : t - boundaryTime cfg anchor period 0 = BitVec.ofInt 32 (-x) := by
    rw [BitVec.ofInt_neg, ← hfirst, neg_sub]
  have hnat := toNat_ofInt_of_range x hrange
  unfold leastIndex
  dsimp only
  unfold atOrAfter
  rw [hfirst, hback]
  by_cases hlate : 0 ≤ x
  · have hlag : scheduleLag cfg period ahead = 0 := by
      unfold scheduleLag
      omega
    rw [if_pos hlate] at hnat
    rw [if_pos (by simp; omega), hlag, Nat.div_eq_of_lt (by omega), Nat.max_zero]
  · have hlag : scheduleLag cfg period ahead = (BitVec.ofInt 32 (-x)).toNat := by
      unfold scheduleLag
      rw [BitVec.toNat_ofInt]
      omega
    rw [if_neg hlate] at hnat
    rw [if_neg (by simp; omega), hlag]

/-- The model's next boundary is the least one that the schedule leaves open (R41). -/
theorem leastIndex_leastOpen (cfg : Configuration) (anchor t : Micros) {period : Nat} (hp : 0 < period) (ahead : Int)
    (last : Option Int) (ht : t - anchor = BitVec.ofInt 32 ahead)
    (hrange : -(2 ^ 31) ≤ scheduleShift cfg period - ahead ∧ scheduleShift cfg period - ahead < 2 ^ 31) :
    leastOpen cfg period ahead last (leastIndex cfg anchor period t (firstOpenIndex last)) := by
  rw [leastIndex_eq cfg anchor t hp ahead _ ht hrange]
  refine ⟨(ahead_le_scheduled cfg hp ahead _).mpr (Nat.le_max_right ..),
    (firstOpenIndex_le last _).mp (Nat.le_max_left ..), fun k hk => ?_⟩
  rcases lt_max_iff.mp hk with hstart | hlate
  · have hclosed := mt (firstOpenIndex_le last k).mpr (Nat.not_le.mpr hstart)
    push Not at hclosed
    exact .inr hclosed
  · exact .inl (not_le.mp (mt (ahead_le_scheduled cfg hp ahead k).mp (Nat.not_le.mpr hlate)))

/-- The mean of four plausible intervals is a plausible period (R30, R34). -/
theorem period_bounds (cfg : Configuration) (l : List Nat) (hl : l.length = 4)
    (h : ∀ x ∈ l, plausibleInterval cfg x) : 13333 ≤ l.sum / 4 ∧ l.sum / 4 ≤ 25000 := by
  have hb : ∀ x ∈ l, 13333 ≤ x ∧ x ≤ 25000 := fun x hx => plausible_bounds cfg x ((plausible_eq_true x).mpr (h x hx))
  have hlow := List.card_nsmul_le_sum l 13333 fun x hx => (hb x hx).1
  have hhigh := List.sum_le_card_nsmul l 25000 fun x hx => (hb x hx).2
  rw [hl, smul_eq_mul] at hlow hhigh
  omega

/-- The shift of a schedule is at most 2,083 microseconds either way (R40, R190). -/
theorem scheduleShift_bounds (cfg : Configuration) {period : Nat} (h : configurationInRange cfg = true)
    (hp : period ≤ 25000) : -2084 ≤ scheduleShift cfg period ∧ scheduleShift cfg period ≤ 2084 := by
  have hphase : -300 ≤ cfg.phaseShift ∧ cfg.phaseShift ≤ 300 := by
    simp only [configurationInRange, Bool.and_eq_true, decide_eq_true_eq, List.mem_cons, List.not_mem_nil, or_false] at h
    omega
  have hlow : -7500000 ≤ cfg.phaseShift * period := by nlinarith
  have hhigh : cfg.phaseShift * period ≤ 7500000 := by nlinarith
  have hleast : (-7500000 : Int).tdiv 3600 = -2083 := by decide
  have hmost : (7500000 : Int).tdiv 3600 = 2083 := by decide
  have hfrom := Int.tdiv_le_tdiv (by decide : (0 : Int) < 3600) hlow
  have hto := Int.tdiv_le_tdiv (by decide : (0 : Int) < 3600) hhigh
  unfold scheduleShift
  omega

end Sys2Proof.Machine
end

section
/-! SUPPORT. The capture that locks, the capture in LOCKED and the loss of sync (R34 to R41, R49, R50). -/

namespace Sys2Proof.Machine

/-! ### Lock (R34) -/

/-- Settles O24: the fourth interval lays the first schedule from the capture itself, and the figure is reported behind it. -/
theorem fourthIntervalLocks : Obligations.FourthIntervalLocks := by
  intro s cfg p period hc h hfits hk hthree hp hi hold hlength hjoins hperiod
  have hplausible : ∀ x ∈ s.tracker.intervals ++ [(s.time - p).toNat], plausibleInterval cfg x :=
    List.forall_mem_append.mpr ⟨hold, by simpa using hi⟩
  have hbounds := period_bounds cfg _ (by simp [hlength]) hplausible
  rw [← hperiod] at hbounds
  have hshift := scheduleShift_bounds cfg h hbounds.2
  refine ⟨leastIndex cfg s.time period s.time (firstOpenIndex none),
    leastIndex_leastOpen cfg s.time s.time (by omega) 0 none (by simp) (by omega), ?_⟩
  have hjudged : s.judgeCapture cfg =
      (captureRecorded s).lock cfg (s.tracker.intervals ++ [(s.time - p).toNat]) := by
    rw [State.judgeCapture_of_plausible hp hi, State.plausibleCapture_joins (s := captureRecorded s) hk hjoins]
    exact State.extendRun_of_three (s := captureRecorded s) _ hthree
  rw [exec_capture _ hc h hjudged fun _ => hfits, hperiod]
  rfl

/-! ### Re-anchor (R35 to R37, R41) -/

section
variable {s : State} {cfg : Configuration}

/-- The report behind each band, in the words of the statements (R36, R67). -/
theorem State.reportBand_eq (error : Int) (h : configurationInRange cfg = true) (hfits : s.station.StackFits) :
    s.reportBand cfg error =
      if error.natAbs ≤ 30 then s
      else if error.natAbs ≤ cfg.jumpThreshold then counted s [.phaseShift]
      else phaseTaken (counted s [.phaseJump]) cfg := by
  unfold State.reportBand
  rw [State.classifyPhaseJump_eq h (by simpa using hfits)]
  rfl

theorem jumpThreshold_bound (h : configurationInRange cfg = true) : 50 ≤ cfg.jumpThreshold := by
  simp only [configurationInRange, within, Bool.and_eq_true, decide_eq_true_eq] at h
  tauto

/-- The predicted crossing of a tracker with an anchor (R35). -/
theorem Tracker.predicted_eq (k : Tracker) {a : Micros} (now : Micros) (ha : k.anchor = some a) :
    k.predicted now = a + BitVec.ofNat 32 k.period := by
  simp [Tracker.predicted, ha, afterMicros]

/-- The re-anchored tracker, in the words of the statements (R36 to R41). -/
theorem State.follow_eq (interval : Nat) {anchor : Micros} {e : Int} {list : List Nat} {period : Nat}
    (hanchor : s.tracker.newAnchor s.time = anchor) (herror : s.tracker.phaseError s.time = e)
    (hlist : lastFour (s.tracker.intervals ++ [interval]) = list) (hperiod : period = list.sum / 4) :
    s.follow cfg interval = State.reportBand
      { s with
        tracker := { s.tracker with
          intervals := list
          anchor := some anchor
          period := period
          figure := 10000000 / period
          next := some (scheduledBoundary cfg anchor period (leastIndex cfg anchor period s.time
            (firstOpenIndex (s.tracker.lastIndex.map fun l => l - 6))))
          deadline := some (anchor + BitVec.ofNat 32 (period + period / 4))
          lastIndex := s.tracker.lastIndex.map fun l => l - 6 } } cfg e := by
  unfold State.follow
  rw [hanchor, herror, hlist, hperiod]
  rfl

end

/-- The capture lies behind the new anchor by what the first band has not corrected (R36). -/
theorem sub_corrected (t predicted : Micros) (late : Int) (hlate : late = (t - predicted).toInt) :
    t - (predicted + BitVec.ofInt 32 (late.tdiv 4)) = BitVec.ofInt 32 (late - late.tdiv 4) := by
  have hof : BitVec.ofInt 32 late = t - predicted := by rw [hlate, BitVec.ofInt_toInt]
  rw [sub_eq_add_neg late, BitVec.ofInt_add, BitVec.ofInt_neg, hof]
  ring

/-- What the first band leaves uncorrected is at most three quarters of half the counter range. -/
theorem uncorrected_bounds (x : Micros) :
    -1700000000 ≤ x.toInt - x.toInt.tdiv 4 ∧ x.toInt - x.toInt.tdiv 4 ≤ 1700000000 := by
  have hlow := x.le_toInt
  have hhigh := x.toInt_lt
  have hsplit := Int.mul_tdiv_add_tmod x.toInt 4
  have hrest := And.intro (Int.lt_tmod_of_pos x.toInt (by decide : (0 : Int) < 4))
    (Int.tmod_lt_of_pos x.toInt (by decide : (0 : Int) < 4))
  omega

/-- The phase error, the new anchor and how far the capture lies behind it, by the band (R35, R36). -/
theorem Tracker.reanchored {k : Tracker} {now a anchor : Micros} {late e ahead : Int} (ha : k.anchor = some a)
    (hlate : late = (now - (a + BitVec.ofNat 32 k.period)).toInt) (he : e = (late * 3600).tdiv k.period)
    (hinner : e.natAbs ≤ 30 → anchor = a + BitVec.ofNat 32 k.period + BitVec.ofInt 32 (late.tdiv 4) ∧
      ahead = late - late.tdiv 4)
    (houter : 30 < e.natAbs → anchor = now ∧ ahead = 0) :
    k.phaseError now = e ∧ k.newAnchor now = anchor ∧ now - anchor = BitVec.ofInt 32 ahead ∧
      -1700000000 ≤ ahead ∧ ahead ≤ 1700000000 := by
  have hlateness : k.lateness now = late := by
    rw [hlate, ← k.predicted_eq now ha]
    rfl
  have herror : k.phaseError now = e := by
    rw [he, ← hlateness]
    rfl
  refine ⟨herror, ?_⟩
  unfold Tracker.newAnchor
  rw [herror, hlateness, k.predicted_eq now ha]
  by_cases hin : e.natAbs ≤ 30
  · obtain ⟨rfl, rfl⟩ := hinner hin
    rw [if_pos hin]
    exact ⟨rfl, sub_corrected _ _ _ hlate, hlate ▸ uncorrected_bounds _⟩
  · obtain ⟨rfl, rfl⟩ := houter (by omega)
    rw [if_neg hin]
    exact ⟨rfl, by simp, by omega, by omega⟩

/-- Settles O25: the capture re-anchors by its band, the schedule follows, and the reports come behind it. -/
theorem lockedCaptureFollowsItsBand : Obligations.LockedCaptureFollowsItsBand := by
  intro s cfg p a anchor late e ahead list period hc h hfits hk hp hi ha hfour hold hpositive hlate he hlist hperiod
    hinner houter
  obtain ⟨herror, hanchor, hahead, hreach⟩ :=
    Tracker.reanchored (k := (captureRecorded s).tracker) (now := s.time) ha hlate he hinner houter
  have hlast := (lastFour_append s.tracker.intervals (s.time - p).toNat hfour).trans hlist.symm
  have hplausible : ∀ x ∈ list, plausibleInterval cfg x := fun x hx =>
    List.forall_mem_append.mpr ⟨hold, by simpa using hi⟩ x (List.mem_of_mem_drop (hlist ▸ hx))
  have hbounds := period_bounds cfg list (by simp [hlist, hfour]) hplausible
  rw [← hperiod] at hbounds
  have hshift := scheduleShift_bounds cfg h hbounds.2
  let last := s.tracker.lastIndex.map fun l => l - 6
  let m := leastIndex cfg anchor period s.time (firstOpenIndex last)
  obtain ⟨u, hu⟩ : ∃ u : State, u = { s with
      tracker := { s.tracker with
        previous := some s.time
        intervals := list
        anchor := some anchor
        period := period
        figure := 10000000 / period
        next := some (scheduledBoundary cfg anchor period m)
        deadline := some (anchor + BitVec.ofNat 32 (period + period / 4))
        lastIndex := last } } := ⟨_, rfl⟩
  have hjudged : s.judgeCapture cfg = u.reportBand cfg e := by
    have hfollowed : (captureRecorded s).plausibleCapture cfg (s.time - p).toNat =
        (captureRecorded s).follow cfg (s.time - p).toNat := by
      simp only [State.plausibleCapture, captureRecorded, State.setTracker_tracker, hk]
    rw [State.judgeCapture_of_plausible hp hi, hfollowed, hu]
    exact State.follow_eq (s := captureRecorded s) _ hanchor herror hlast hperiod
  have hstation : u.station = s.station := by rw [hu]
  have hfigure : u.tracker.figure = 10000000 / period := by rw [hu]
  have hexec (v : State) (hv : u.reportBand cfg e = v)
      (hfitsv : v.classifier.state = .normal ∨ v.classifier.state = .recovering → v.station.StackFits) :
      exec .capture s = .next (frequencyTaken v cfg (10000000 / period)) := by
    have hkept : v.tracker = u.tracker := by simp [← hv]
    rw [exec_capture v hc h (hjudged.trans hv) hfitsv, hkept, hfigure]
  have hband := State.reportBand_eq (s := u) e h (hstation ▸ hfits)
  refine ⟨m, u, ?_, hu, fun hin => ?_, fun hout hin => ?_, fun hout => ?_⟩
  · exact leastIndex_leastOpen cfg anchor s.time (by omega) ahead last hahead (by omega)
  · exact hexec u (by rw [hband, if_pos hin]) fun _ => hstation ▸ hfits
  · exact hexec _ (by rw [hband, if_neg (by omega), if_pos hin]) fun _ => hstation ▸ hfits
  · have hjump := jumpThreshold_bound h
    refine hexec _ (by rw [hband, if_neg (by omega), if_neg (by omega)]) fun hopen => ?_
    have hclosed := phaseTaken_disturbed (counted u [.phaseJump]) cfg
    rcases hclosed with hclosed | hclosed | hclosed <;> simp [hclosed] at hopen

/-! ### Loss of sync (R38, R49) -/

/-- The Sampling Unit after a loss in TRACKED: it runs free from the later of the sector's nominal end and the loss (R49). -/
theorem Sampler.lossNotice_eq (m : Sampler) (cfg : Configuration) (now : Micros) (x : Sector) (hmode : m.mode = .tracked)
    (hx : m.sector = some x) :
    m.lossNotice cfg now = { m with
      mode := .free, freeTimer := some (laterOf (x.start + BitVec.ofNat 32 (nominalMicros cfg / 6)) now) } := by
  unfold Sampler.lossNotice
  rw [hmode, hx]
  rfl

/-- The later of two instants, by the difference of the other one to it (R29). -/
theorem laterOf_eq (a b : Micros) :
    ((b - a).toNat < 2 ^ 31 → laterOf a b = b) ∧ (2 ^ 31 < (b - a).toNat → laterOf a b = a) := by
  unfold laterOf atOrAfter
  refine ⟨fun h => ?_, fun h => if_pos ?_⟩
  · split
    · rename_i hback
      simp only [decide_eq_true_eq] at hback
      bv_omega
    · rfl
  · simp only [decide_eq_true_eq]
    bv_omega

/-- Settles O26: the loss unlocks, blocks and frees the sampling, and then reports. -/
theorem lossOfSyncUnlocksAndBlocks : Obligations.LossOfSyncUnlocksAndBlocks := by
  intro s cfg deadline hc h hfits hk hdeadline hdue
  have hlost : s.lossDue = true := by simpa [State.lossDue, hk, hdeadline, reached, atOrAfter] using hdue
  refine ⟨s.sampler.lossNotice cfg s.time, ?_, fun hmode => ?_, fun x hmode hx => ⟨fun hover => ?_, fun hahead => ?_⟩⟩
  · simp only [exec, execLossOfSync, State.configured, hc, hlost, if_true, State.loseSync]
    rw [State.classifySyncLoss_eq h (by simpa using hfits)]
    rfl
  · unfold Sampler.lossNotice
    split
    · exact absurd ‹_› hmode
    · rfl
    · rfl
  · rw [Sampler.lossNotice_eq _ _ _ x hmode hx, (laterOf_eq _ _).1 hover]
  · rw [Sampler.lossNotice_eq _ _ _ x hmode hx, (laterOf_eq _ _).2 hahead]

end Sys2Proof.Machine
end

section
/-! SUPPORT. The figure set of the sector that closes, the next sector, and the figures at the allocator in every order of
the neighbours (R46, R51 to R59, R148). -/

namespace Sys2Proof.Machine

/-! ### Figures (R52 to R55) -/

/-- The largest magnitude of a window is at or above each entry's, and is that of an entry (R52). -/
theorem amplitude_foldl (w : List Int) (a : Nat) :
    a ≤ w.foldl (fun a x => max a x.natAbs) a ∧ (∀ x ∈ w, x.natAbs ≤ w.foldl (fun a x => max a x.natAbs) a) ∧
      (w.foldl (fun a x => max a x.natAbs) a = a ∨ ∃ x ∈ w, x.natAbs = w.foldl (fun a x => max a x.natAbs) a) := by
  induction w generalizing a with
  | nil => simp
  | cons y rest ih =>
    obtain ⟨hstart, hall, hsome⟩ := ih (max a y.natAbs)
    rw [List.foldl_cons]
    refine ⟨(Nat.le_max_left ..).trans hstart, List.forall_mem_cons.mpr ⟨(Nat.le_max_right ..).trans hstart, hall⟩, ?_⟩
    rcases hsome with hsome | ⟨x, hx, hsome⟩
    · rw [hsome]
      rcases Nat.le_total y.natAbs a with hle | hle
      · exact .inl (Nat.max_eq_left hle)
      · exact .inr ⟨y, List.mem_cons_self, (Nat.max_eq_right hle).symm⟩
    · exact .inr ⟨x, List.mem_cons_of_mem _ hx, hsome⟩

theorem amplitude_spec (w : List Int) (hw : w ≠ []) :
    (∀ x ∈ w, x.natAbs ≤ amplitude w) ∧ ∃ x ∈ w, x.natAbs = amplitude w := by
  obtain ⟨-, hall, hsome⟩ := amplitude_foldl w 0
  refine ⟨hall, ?_⟩
  rcases hsome with hzero | hsome
  · obtain ⟨y, hy⟩ := List.exists_mem_of_ne_nil w hw
    have hle := hall y hy
    exact ⟨y, hy, by unfold amplitude; omega⟩
  · exact hsome

theorem WindowSound.ne_nil {w : List Int} (h : WindowSound w) : w ≠ [] := by
  rintro rfl
  exact absurd h.1 (by decide)

/-- C_volt, by its bands (R54). -/
theorem capabilityVolt_spec (cfg : Configuration) (v : Nat) (h : cfg.voltFloor < cfg.voltFull) :
    (cfg.voltFull ≤ v → capabilityVolt cfg v = cfg.rating) ∧ (v ≤ cfg.voltFloor → capabilityVolt cfg v = 0) ∧
      (cfg.voltFloor < v → v < cfg.voltFull →
        capabilityVolt cfg v = cfg.rating * (v - cfg.voltFloor) / (cfg.voltFull - cfg.voltFloor)) :=
  ⟨fun hfull => if_pos hfull, fun hfloor => (if_neg (by omega)).trans (if_pos hfloor),
    fun hfloor hfull => (if_neg (by omega)).trans (if_neg (by omega))⟩

/-- C_therm, by its bands (R55). -/
theorem capabilityThermal_spec (cfg : Configuration) (sink : Option Int) (h : cfg.tDerate < cfg.tMax) :
    (sink = none → capabilityThermal cfg sink = cfg.rating) ∧
      ∀ x, sink = some x →
        (x ≤ cfg.tDerate → capabilityThermal cfg sink = cfg.rating) ∧
        ((cfg.tMax : Int) ≤ x → capabilityThermal cfg sink = 0) ∧
        ((cfg.tDerate : Int) < x → x < cfg.tMax →
          (capabilityThermal cfg sink : Int) = (cfg.rating * (cfg.tMax - x)) / ((cfg.tMax : Int) - cfg.tDerate)) := by
  refine ⟨fun hnone => by rw [hnone]; rfl, ?_⟩
  rintro x rfl
  refine ⟨fun hcool => if_pos hcool, fun hhot => (if_neg (by omega)).trans (if_pos hhot), fun hwarm hbelow => ?_⟩
  have hthermal : capabilityThermal cfg (some x) = cfg.rating * (cfg.tMax - x).toNat / (cfg.tMax - cfg.tDerate) :=
    (if_neg (by omega)).trans (if_neg (by omega))
  rw [hthermal, Int.natCast_ediv, Int.natCast_mul, Int.toNat_of_nonneg (by omega), Int.natCast_sub h.le]

/-- The figure set that a boundary forms is the one of R52 to R55. -/
theorem formFigures_figureSetBy (m : Sampler) (cfg : Configuration) (x : Sector) (h : configurationInRange cfg = true)
    (hs : m.Sound) (hx : m.sector = some x) : figureSetBy cfg m x.count (m.formFigures cfg) := by
  obtain ⟨hab, hbc, hca, -⟩ := hs
  obtain ⟨-, -, -, -, -, -, -, hvolt, hdegrees, -⟩ := configurationInRange_bounds cfg h
  have hcount : m.sampleCount = x.count := by simp [Sampler.sampleCount, hx]
  have habs := amplitude_spec m.windowAB hab.ne_nil
  have hbcs := amplitude_spec m.windowBC hbc.ne_nil
  have hcas := amplitude_spec m.windowCA hca.ne_nil
  obtain ⟨hfull, hfloor, hbetween⟩ := capabilityVolt_spec cfg (m.formFigures cfg).voltage (by omega)
  obtain ⟨hnone, hsome⟩ := capabilityThermal_spec cfg (m.formFigures cfg).sink (by omega)
  exact ⟨⟨_, _, _, habs, hbcs, hcas, rfl, rfl, rfl⟩, rfl, hcount ▸ rfl, hcount ▸ rfl, rfl, hfull, hfloor, hbetween,
    hnone, hsome, rfl⟩

/-- A sector begins with its sample 0, in the words of the statement (R46, R47). -/
theorem Sampler.beginSector_eq (m : Sampler) (start : Micros) (base : Nat) (plant : PlantInputs) :
    m.beginSector start base plant = { m with
      sector := some ⟨start, base, 1⟩
      windowAB := (m.windowAB ++ [max (-2047) plant.lineAB.toInt]).drop 1
      windowBC := (m.windowBC ++ [max (-2047) plant.lineBC.toInt]).drop 1
      windowCA := (m.windowCA ++ [max (-2047) plant.lineCA.toInt]).drop 1
      currentSum := plant.current.toNat
      voltageSum := plant.voltage.toNat } := by
  simp only [Sampler.beginSector, Sampler.convert, Nat.zero_add]
  rfl

/-- The sector that begins behind the figure set (R46, R51, R56 to R59). -/
theorem Sampler.turned_eq (m : Sampler) (cfg : Configuration) (start : Micros) (base : Nat) (plant : PlantInputs) :
    (m.closeSector cfg).nextSector cfg start base plant =
      sectorTurned cfg m (m.formFigures cfg) start base plant := by
  unfold Sampler.nextSector sectorTurned
  have hcycle : (m.closeSector cfg).cycle = m.cycle := rfl
  simp only [hcycle, Sampler.beginSector_eq]
  by_cases hlast : m.cycle + 1 < 6
  · simp only [hlast, true_or, if_true]
    rfl
  · cases hfitted : cfg.temperatureFitted <;>
      simp only [hlast, if_false, false_or, if_true, Bool.true_eq_false, Bool.false_eq_true] <;> rfl

/-! ### The figures at the allocator (R56, R148) -/

/-- What the allocator has last received of a figure set. -/
def Allocator.received (a : Allocator) : Nat × Nat × Bool := (a.latestC, a.latestI, a.latestDcLimit)

theorem Allocator.received_iff {a : Allocator} {c i : Nat} {limit : Bool} :
    a.received = (c, i, limit) ↔ a.latestC = c ∧ a.latestI = i ∧ a.latestDcLimit = limit := by
  simp [Allocator.received]

@[simp] theorem Allocator.enter_received (a : Allocator) (left entered : StationState) :
    (a.enter left entered).received = a.received := rfl

section
variable {s : State} {cfg : Configuration}

@[simp] theorem State.enterStandby_received (origin : StandbyOrigin) :
    (s.enterStandby cfg origin).allocator.received = s.allocator.received := rfl

@[simp] theorem State.trip_received (cause : TripCause) :
    (s.trip cfg cause).allocator.received = s.allocator.received := by
  unfold State.trip
  split <;> simp

@[simp] theorem State.enterDestination_received :
    (s.enterDestination cfg).allocator.received = s.allocator.received := by
  unfold State.enterDestination
  split <;> simp

@[simp] theorem State.testStart_received : (s.testStart cfg).allocator.received = s.allocator.received := by
  unfold State.testStart
  split <;> simp

@[simp] theorem State.boundaryTests_received :
    (s.boundaryTests cfg).allocator.received = s.allocator.received := by
  unfold State.boundaryTests State.testStopping
  split
  case h_2 => split <;> simp
  all_goals simp

@[simp] theorem State.enterBlocked_received : (s.enterBlocked cfg).allocator.received = s.allocator.received := by
  simp [State.enterBlocked]

@[simp] theorem State.rideOut_received (setpoint : Nat) :
    (s.rideOut cfg setpoint).allocator.received = s.allocator.received := by
  simp [State.rideOut]

@[simp] theorem State.escalate_received : (s.escalate cfg).allocator.received = s.allocator.received := by
  simp [State.escalate]

@[simp] theorem State.reactTo_received (x : Transition) (setpoint : Nat) :
    (s.reactTo cfg x setpoint).allocator.received = s.allocator.received := by
  unfold State.reactTo
  split
  case h_9 | h_10 => split <;> simp
  all_goals simp

@[simp] theorem State.classifyFigure_received (v setpoint : Nat) (h : configurationInRange cfg = true) :
    (s.classifyFigure cfg v setpoint).allocator.received = s.allocator.received := by
  rw [State.classifyFigure_eq v setpoint h]
  cases figureEntered s.classifier cfg v with
  | none => rfl
  | some e => exact State.reactTo_received ..

/-- Each of the neighbours leaves what the allocator has received. -/
theorem Delivery.pass_received (d : Delivery) (r : FigureReport) (n : Neighbour) (h : configurationInRange cfg = true) :
    (d.pass cfg r n).state.allocator.received = d.state.allocator.received := by
  unfold Delivery.pass
  rw [Delivery.noteRelease_state]
  cases n <;> dsimp only [Delivery.act]
  case classifier => exact State.classifyFigure_received _ _ h
  case overcurrent | overTemperature => split <;> simp
  case controller => exact State.boundaryTests_received
  case regulator =>
    unfold Delivery.regulate
    (repeat' split) <;> rfl
  case generator => split <;> rfl

theorem State.deliver_received (r : FigureReport) (order : List Neighbour) (h : configurationInRange cfg = true) :
    (s.deliver cfg r order).allocator.received = s.allocator.received := by
  have hall (l : List Neighbour) : ∀ d : Delivery,
      (l.foldl (Delivery.pass cfg r) d).state.allocator.received = d.state.allocator.received := by
    induction l with
    | nil => exact fun d => rfl
    | cons n rest ih => exact fun d => (ih _).trans (d.pass_received r n h)
  exact hall _ _

/-- A boundary of either mode at the Sampling Unit and the allocator, in every order of the neighbours (R46, R56, R148). -/
theorem State.takeBoundary_forms (boundary : Option Boundary) (start : Micros) (base : Nat) (plant : PlantInputs)
    (order : List Neighbour) (h : configurationInRange cfg = true) {f : Figures} (hf : f = s.sampler.formFigures cfg)
    {t : State} (ht : t = s.takeBoundary cfg boundary start base plant order) :
    t.sampler = sectorTurned cfg s.sampler f start base plant ∧ t.allocator.latestC = f.capability ∧
      t.allocator.latestI = f.current ∧ t.allocator.latestDcLimit = decide (cfg.voltageMax < f.dcVoltage) := by
  subst hf ht
  have hreceived : (s.takeBoundary cfg boundary start base plant order).allocator.received =
      ((s.sampler.formFigures cfg).capability, (s.sampler.formFigures cfg).current,
        decide (cfg.voltageMax < (s.sampler.formFigures cfg).dcVoltage)) :=
    State.deliver_received (s := s.formFigureSet cfg) _ order h
  exact ⟨(State.takeBoundary_sampler ..).trans (Sampler.turned_eq ..), Allocator.received_iff.mp hreceived⟩

end

/-- The schedule after a boundary is issued (R40, R41). -/
theorem Tracker.issue_eq (k : Tracker) (cfg : Configuration) (b : Boundary) (now : Micros) {a : Micros}
    (ha : k.anchor = some a) :
    k.issue cfg b now = { k with
      next := some (scheduledBoundary cfg a k.period (b.index + 1)), lastIndex := some b.index } := by
  have hanchor : k.anchor.getD now = a := by
    rw [ha]
    rfl
  unfold Tracker.issue
  rw [hanchor]
  rfl

/-- Settles O28: either boundary closes the sector into its figure set, and the neighbours leave that set as it is. -/
theorem boundaryFormsTheFigureSet : Obligations.BoundaryFormsTheFigureSet := by
  intro s cfg plant order x hc h hsound hx
  have hfigures := formFigures_figureSetBy s.sampler cfg x h hsound hx
  refine ⟨fun b a hk ha hb hdue => ?_, fun due hmode hfree hdue => ?_⟩
  · have hreached : s.boundaryDue = true := by simpa [State.boundaryDue, hk, hb, reached, atOrAfter] using hdue
    have hexec : exec (.sectorBoundary plant order) s = .next
        ((s.setTracker (s.tracker.issue cfg b s.time)).takeBoundary cfg (some b) b.time s.tracker.period plant order) := by
      simp [exec, execSectorBoundary, State.configured, hc, hreached, State.issueBoundary, hb]
    obtain ⟨hsampler, hlatestC, hlatestI, hlimit⟩ := State.takeBoundary_forms
      (s := s.setTracker (s.tracker.issue cfg b s.time)) (some b) b.time s.tracker.period plant order h rfl rfl
    refine ⟨_, s.sampler.formFigures cfg, hexec, hfigures, hsampler, ?_, hlatestC, hlatestI, hlimit, by simp⟩
    simp [Tracker.issue_eq _ _ _ _ ha]
  · have hreached : s.freeBoundaryDue = true := by
      simpa [State.freeBoundaryDue, hmode, hfree, reached, atOrAfter] using hdue
    let timed : Sampler := { s.sampler with freeTimer := some (afterMicros due (nominalSector cfg)) }
    have hexec : exec (.freeRunningBoundary plant order) s = .next
        ((s.setSampler timed).takeBoundary cfg none due (nominalPeriod cfg) plant order) := by
      simp [exec, execFreeRunningBoundary, State.configured, hc, hreached, State.freeBoundary, hfree, timed]
    obtain ⟨hsampler, hlatestC, hlatestI, hlimit⟩ := State.takeBoundary_forms
      (s := s.setSampler timed) none due (nominalPeriod cfg) plant order h rfl rfl
    exact ⟨_, s.sampler.formFigures cfg, hexec, hfigures, hsampler, hlatestC, hlatestI, hlimit, by simp⟩

end Sys2Proof.Machine
end

section
/-! SUPPORT. One sample of the sector in progress (R46, R47). -/

namespace Sys2Proof.Machine

/-- The windows slide by the converted line samples, in the words of the statement (R47). -/
theorem Sampler.convert_eq (m : Sampler) (plant : PlantInputs) (x : Sector) (hx : m.sector = some x) :
    m.convert plant = { m with
      windowAB := (m.windowAB ++ [max (-2047) plant.lineAB.toInt]).drop 1
      windowBC := (m.windowBC ++ [max (-2047) plant.lineBC.toInt]).drop 1
      windowCA := (m.windowCA ++ [max (-2047) plant.lineCA.toInt]).drop 1
      currentSum := m.currentSum + plant.current.toNat
      voltageSum := m.voltageSum + plant.voltage.toNat
      sector := some { x with count := x.count + 1 } } := by
  unfold Sampler.convert
  rw [hx]
  rfl

/-- Settles O27: a sample that is due slides the windows and grows the sums and the count. -/
theorem sampleEntersWindowsAndSums : Obligations.SampleEntersWindowsAndSums := by
  intro s cfg plant x hc hx hcount hreached
  have hdue : s.sampleDue = true := by
    simp only [State.sampleDue, hx, hcount, decide_true, Bool.true_and]
    exact decide_eq_true hreached
  simp only [exec, execSample, State.configured, hc, hdue, if_true, Sampler.convert_eq _ _ x hx]
  rfl

end Sys2Proof.Machine
end

section
/-! SUPPORT. Soundness block by block, under the operations of each block: the Sampling Unit's windows and sums (R46, R47,
R51 to R53), what the classifier holds (R61 to R75), the demand, and the frames on the line (R95, R101, R134, R137). -/

namespace Sys2Proof.Machine

/-! ### The Sampling Unit (R46, R47, R51 to R53) -/

/-- The current sum is that of the samples taken (R47, R53). -/
abbrev Sampler.SumBounded (m : Sampler) : Prop := ∀ x ∈ m.sector, m.currentSum ≤ 4095 * x.count

section
variable {m : Sampler}

theorem conversion_le (c : Conversion) : c.toNat ≤ 4095 := Nat.le_of_lt_succ c.isLt

theorem Sampler.Sound.convert (hs : m.Sound) (plant : PlantInputs) (hroom : ∀ x ∈ m.sector, x.count < 16) :
    (m.convert plant).Sound := by
  obtain ⟨hab, hbc, hca, -, hrest⟩ := hs
  refine ⟨slide_sound _ _ hab (lineCount_bounds _), slide_sound _ _ hbc (lineCount_bounds _),
    slide_sound _ _ hca (lineCount_bounds _), fun x hx => ?_, hrest⟩
  obtain ⟨y, hy, rfl⟩ := Option.map_eq_some_iff.mp hx
  have := hroom y hy
  dsimp only
  omega

theorem Sampler.SumBounded.convert (hs : m.SumBounded) (plant : PlantInputs) : (m.convert plant).SumBounded := by
  intro x hx
  obtain ⟨y, hy, rfl⟩ := Option.map_eq_some_iff.mp hx
  have := hs y hy
  have := conversion_le plant.current
  simp only [Sampler.convert]
  omega

/-- A sector begins with one sample of each channel, and the figures stay (R46, R47). -/
theorem Sampler.Sound.beginSector (hs : m.Sound) (start : Micros) (base : Nat) (plant : PlantInputs) :
    (m.beginSector start base plant).Sound ∧ (m.beginSector start base plant).SumBounded ∧
      (m.beginSector start base plant).figures = m.figures := by
  obtain ⟨hab, hbc, hca, -, hrest⟩ := hs
  refine ⟨⟨slide_sound _ _ hab (lineCount_bounds _), slide_sound _ _ hbc (lineCount_bounds _),
    slide_sound _ _ hca (lineCount_bounds _), ?_, hrest⟩, Sampler.SumBounded.convert ?_ plant, rfl⟩
  · rintro x ⟨⟩
    simp
  · rintro x ⟨⟩
    exact Nat.zero_le _

theorem Sampler.Sound.activate (hs : m.Sound) (cfg : Configuration) (now : Micros) (plant : PlantInputs) :
    (m.activate cfg now plant).Sound ∧ (m.activate cfg now plant).SumBounded ∧
      (m.activate cfg now plant).figures = m.figures := by
  have hbegun := Sampler.Sound.beginSector
    (m := { m with mode := .free, freeTimer := some (afterMicros now (nominalSector cfg)) }) hs
    now (nominalPeriod cfg) plant
  unfold Sampler.activate
  dsimp only
  split <;> exact hbegun

theorem Sampler.Sound.closeSector (hs : m.Sound) (cfg : Configuration) : (m.closeSector cfg).Sound := by
  obtain ⟨hab, hbc, hca, hsector, hcycle, -⟩ := hs
  exact ⟨hab, hbc, hca, hsector, hcycle, rfl, lineFigure_le .., lineFigure_le .., lineFigure_le ..⟩

theorem Sampler.Sound.nextSector (hs : m.Sound) (cfg : Configuration) (start : Micros) (base : Nat)
    (plant : PlantInputs) :
    (m.nextSector cfg start base plant).Sound ∧ (m.nextSector cfg start base plant).SumBounded ∧
      (m.nextSector cfg start base plant).figures = m.figures := by
  obtain ⟨hab, hbc, hca, hsector, -, hfigures⟩ := hs
  have hcycle (n : Nat) (hn : n < 6) : Sampler.Sound { m with cycle := n } := ⟨hab, hbc, hca, hsector, hn, hfigures⟩
  unfold Sampler.nextSector
  split
  · exact (hcycle _ ‹_›).beginSector start base plant
  · have hbegun := (hcycle 0 (by decide)).beginSector start base plant
    dsimp only
    split <;> exact hbegun

/-- A mean of samples of 12 bits never exceeds the full scale (R53). -/
theorem scaledMean_le (sum count fullScale : Nat) (h : sum ≤ 4095 * count) :
    scaledMean sum count fullScale ≤ fullScale := by
  have hmean : sum / count ≤ 4095 := Nat.div_le_of_le_mul (by omega)
  exact Nat.div_le_of_le_mul (Nat.mul_le_mul_right _ hmean)

/-- I_meas never exceeds I_fs (R53). -/
theorem Sampler.SumBounded.current_le (hs : m.SumBounded) (cfg : Configuration) :
    (m.formFigures cfg).current ≤ cfg.currentFullScale := by
  cases hx : m.sector with
  | none => simp [Sampler.formFigures, Sampler.sampleCount, hx, scaledMean]
  | some x =>
    refine scaledMean_le _ _ _ ?_
    simpa [Sampler.sampleCount, hx] using hs x hx

theorem Sampler.lossNotice_cases (m : Sampler) (cfg : Configuration) (now : Micros) :
    m.lossNotice cfg now = m ∨ ∃ due, m.lossNotice cfg now = { m with mode := .free, freeTimer := some due } := by
  unfold Sampler.lossNotice
  split
  · exact .inr ⟨_, rfl⟩
  · exact .inl rfl
  · exact .inl rfl

end

/-! ### The Disturbance Classifier (R61 to R75) -/

section
variable {c : Classifier}

/-- A disturbance is in progress (R65, R73). -/
abbrev Classifier.InProgress (c : Classifier) : Prop :=
  c.state = .disturbed ∨ c.state = .outside ∨ c.state = .recovering

/-- What a sound classifier holds while a disturbance is in progress. -/
theorem Classifier.sound_iff_of_inProgress (h : c.InProgress) :
    c.Sound ↔ c.active ≠ ActiveSet.empty ∧ c.onset ≠ none ∧ c.elapsed ≠ none ∧
      (c.confirm ≠ none ↔ c.state = .recovering) ∧
      (c.frequencyTimer ≠ none ↔ c.state = .disturbed ∧ c.active.frequency = true) ∧ c.outOfBand ≤ 3 := by
  have hneither : ¬ (c.state = .inactive ∨ c.state = .normal) := by
    rcases h with h | h | h <;> simp [h]
  simp only [Classifier.Sound, hneither, false_iff]

theorem ActiveSet.only_ne_empty (kind : DisturbanceKind) : ActiveSet.only kind ≠ ActiveSet.empty := by
  cases kind <;> decide

theorem ActiveSet.join_ne_empty (a : ActiveSet) (kind : DisturbanceKind) : a.join kind ≠ ActiveSet.empty := by
  cases kind <;> simp [ActiveSet.join, ActiveSet.empty]

theorem ActiveSet.join_frequency (a : ActiveSet) (kind : DisturbanceKind) (h : kind ≠ .frequency) :
    (a.join kind).frequency = a.frequency := by
  cases kind
  case frequency => exact absurd rfl h
  all_goals rfl

/-- An onset, of FREQUENCY into DISTURBED alone (R65, R68). -/
theorem Classifier.Sound.openDisturbance (hs : c.Sound) (kind : DisturbanceKind) (entered : ClassifierState)
    (now : Micros) (he : entered = .disturbed ∨ entered = .outside ∧ kind ≠ .frequency) :
    (c.openDisturbance kind entered now).Sound := by
  obtain ⟨-, -, -, -, -, hband⟩ := hs
  have hprogress : (c.openDisturbance kind entered now).InProgress := by
    rcases he with rfl | ⟨rfl, -⟩
    · exact .inl rfl
    · exact .inr (.inl rfl)
  refine (Classifier.sound_iff_of_inProgress hprogress).mpr
    ⟨ActiveSet.only_ne_empty kind, Option.some_ne_none _, Option.some_ne_none _, ?_, ?_, hband⟩
  · rcases he with rfl | ⟨rfl, -⟩ <;> simp [Classifier.openDisturbance]
  · rcases he with rfl | ⟨rfl, hkind⟩
    · cases kind <;> simp [Classifier.openDisturbance, ActiveSet.only]
    · simp [Classifier.openDisturbance, hkind]

/-- DISTURBED to OUTSIDE (R70 to R72). -/
theorem Classifier.Sound.goOutside (hs : c.Sound) (hd : c.state = .disturbed) :
    Classifier.Sound { c with state := .outside, frequencyTimer := none } := by
  obtain ⟨hactive, honset, helapsed, hconfirm, -, hband⟩ := (Classifier.sound_iff_of_inProgress (.inl hd)).mp hs
  refine (Classifier.sound_iff_of_inProgress (.inr (.inl rfl))).mpr ⟨hactive, honset, helapsed, ?_, by simp, hband⟩
  simpa [hd] using hconfirm

/-- A kind other than FREQUENCY joins the set (R70). -/
theorem Classifier.Sound.join (hs : c.Sound) (kind : DisturbanceKind) (hk : kind ≠ .frequency) (hp : c.InProgress) :
    Classifier.Sound { c with active := c.active.join kind } := by
  obtain ⟨-, hrest⟩ := (Classifier.sound_iff_of_inProgress hp).mp hs
  refine (Classifier.sound_iff_of_inProgress (by exact hp)).mpr ⟨ActiveSet.join_ne_empty c.active kind, ?_⟩
  simpa only [ActiveSet.join_frequency _ _ hk] using hrest

/-- FREQUENCY joins the set; its timer starts in DISTURBED alone (R70, R72). -/
theorem Classifier.Sound.joinFrequency (hs : c.Sound) (now : Micros) (hp : c.state = .disturbed ∨ c.state = .outside) :
    Classifier.Sound { c with
      active := c.active.join .frequency
      frequencyTimer := if c.state = .disturbed then some now else c.frequencyTimer } := by
  have hprogress : c.InProgress := hp.imp_right .inl
  obtain ⟨-, honset, helapsed, hconfirm, htimer, hband⟩ := (Classifier.sound_iff_of_inProgress hprogress).mp hs
  refine (Classifier.sound_iff_of_inProgress (by exact hprogress)).mpr
    ⟨ActiveSet.join_ne_empty c.active .frequency, honset, helapsed, hconfirm, ?_, hband⟩
  rcases hp with hd | ho
  · simp [hd, ActiveSet.join]
  · simpa [ho] using htimer

/-- The recovery test succeeds (R73). -/
theorem Classifier.Sound.recovering (hs : c.Sound) (now : Micros) (hp : c.InProgress) :
    Classifier.Sound { c with state := .recovering, confirm := some now, frequencyTimer := none } := by
  obtain ⟨hactive, honset, helapsed, -, -, hband⟩ := (Classifier.sound_iff_of_inProgress hp).mp hs
  exact (Classifier.sound_iff_of_inProgress (.inr (.inr rfl))).mpr
    ⟨hactive, honset, helapsed, by simp, by simp, hband⟩

theorem Classifier.Sound.restartConfirm (hs : c.Sound) (now : Micros) (hr : c.state = .recovering) :
    Classifier.Sound { c with confirm := some now } := by
  obtain ⟨hactive, honset, helapsed, -, hrest⟩ := hs
  exact ⟨hactive, honset, helapsed, by simp [hr], hrest⟩

/-- The classifier is NORMAL again (R75). -/
theorem Classifier.Sound.recovered (hs : c.Sound) :
    Classifier.Sound { c with
      state := .normal, active := ActiveSet.empty, onset := none, elapsed := none, confirm := none
      frequencyTimer := none } := by
  obtain ⟨-, -, -, -, -, hband⟩ := hs
  simpa [Classifier.Sound] using hband

theorem Classifier.Sound.recordFigure (hs : c.Sound) (cfg : Configuration) (f : Nat) : (c.recordFigure cfg f).Sound := by
  obtain ⟨hactive, honset, helapsed, hconfirm, htimer, -⟩ := hs
  refine ⟨hactive, honset, helapsed, hconfirm, htimer, ?_⟩
  dsimp only [Classifier.recordFigure]
  split
  · exact Nat.zero_le _
  · exact Nat.min_le_left _ _

/-- The elapsed count runs on where there is one (R71). -/
theorem Classifier.Sound.elapse (hs : c.Sound) (cfg : Configuration) (now : Micros) (us : Nat) :
    (c.elapse cfg now us).Sound := by
  unfold Classifier.elapse
  split
  · rename_i hd
    obtain ⟨hactive, honset, helapsed, hrest⟩ := hs
    exact ⟨hactive, honset, by simpa [hd] using helapsed, hrest⟩
  · exact hs

end

/-! ### What frames are composed from (R95, R97, R98, R137 to R140) -/

/-- What the allocator has of the demand and of C: all of it that a frame's ranges rest on (R134, R148). -/
def Allocator.drawn (a : Allocator) : Nat × Option Nat × Nat := (a.demand, a.pendingDemand, a.latestC)

/-- The demand and a pending one are at most the rating (R134, R193). -/
abbrev Allocator.DemandWithin (a : Allocator) (cfg : Configuration) : Prop :=
  a.demand ≤ cfg.rating ∧ ∀ d ∈ a.pendingDemand, d ≤ cfg.rating

theorem Allocator.DemandWithin.applyPending {a : Allocator} {cfg : Configuration} (h : a.DemandWithin cfg) :
    a.applyPending.DemandWithin cfg := by
  obtain ⟨hdemand, hpending⟩ := h
  refine ⟨?_, by simp [Allocator.applyPending]⟩
  cases hp : a.pendingDemand with
  | none => simpa [Allocator.applyPending, hp] using hdemand
  | some d => simpa [Allocator.applyPending, hp] using hpending d hp

theorem Allocator.DemandWithin.storeDemand {a : Allocator} {cfg : Configuration} (h : a.DemandWithin cfg)
    (state : StationState) {value : Nat} (hv : value ≤ cfg.rating) : (a.storeDemand state value).DemandWithin cfg := by
  unfold Allocator.storeDemand
  split
  · exact ⟨hv, by simp⟩
  · exact ⟨h.1, by simpa using hv⟩

theorem ownShortfall_le (state : StationState) (origin : Option StandbyOrigin) (demand setpoint capability : Nat) :
    ownShortfall state origin demand setpoint capability ≤ demand := by
  cases state <;> dsimp only [ownShortfall]
  case standby => split <;> omega
  all_goals omega

theorem StationState.code_bounds {x : StationState} (hu : x ≠ .unconfigured) (ho : x ≠ .off) :
    1 ≤ x.code ∧ x.code ≤ 9 := by
  cases x
  case unconfigured => exact absurd rfl hu
  case off => exact absurd rfl ho
  all_goals decide

/-! ### The frames on the line (R7, R8, R81 to R83, R95) -/

/-- Every frame that waits at the interface or is being sent lies within the layout's ranges (R95, R101). -/
abbrev ShareLine.InRange (l : ShareLine) : Prop :=
  (∀ q ∈ l.alertQueue, q.body.inRange = true) ∧ (∀ b ∈ l.shareSlot, (Body.share b).inRange = true) ∧
  (∀ f ∈ l.transmission, f.inRange = true)

/-- The frames that wait or are being sent. -/
def ShareLine.frames (l : ShareLine) : List QueuedFrame × Option ShareBody × Option Frame :=
  (l.alertQueue, l.shareSlot, l.transmission)

section
variable {l l' : ShareLine}

theorem ShareLine.InRange.congr (h : l.InRange) (heq : l'.frames = l.frames) : l'.InRange := by
  simp only [ShareLine.frames, Prod.mk.injEq] at heq
  obtain ⟨hqueue, hslot, htransmission⟩ := heq
  simpa only [ShareLine.InRange, hqueue, hslot, htransmission] using h

theorem ShareLine.InRange.join (h : l.InRange) (body : Body) (now : Micros) (hb : body.inRange = true) :
    (l.join body now).InRange := by
  obtain ⟨hqueue, hrest⟩ := h
  refine ⟨List.forall_mem_append.mpr ⟨hqueue, ?_⟩, hrest⟩
  simpa using hb

/-- An entry into OFF leaves a LEAVE alone, and every other entry takes frames away at most (R7, R8). -/
theorem ShareLine.InRange.enter (h : l.InRange) (left entered : StationState) (now : Micros) :
    (l.enter left entered now).InRange := by
  obtain ⟨hqueue, hslot, htransmission⟩ := h
  unfold ShareLine.enter
  split
  · split
    · have hcleared : ShareLine.InRange { l with alertQueue := [], shareSlot := none } :=
        ⟨by simp, by simp, htransmission⟩
      exact hcleared.join .leave now rfl
    · exact ⟨hqueue, hslot, htransmission⟩
  · split
    · exact ⟨fun q hq => hqueue q (List.mem_filter.mp hq).1, hslot, htransmission⟩
    · exact ⟨hqueue, hslot, htransmission⟩

/-- The frame eligible in a slot is one that waits (R81). -/
theorem ShareLine.InRange.eligible (h : l.InRange) {cfg : Configuration} {now : Micros} {body : Body}
    (he : l.eligible cfg now = some body) : body.inRange = true := by
  obtain ⟨hqueue, hslot, -⟩ := h
  unfold ShareLine.eligible at he
  split at he
  case h_1 head _ hq =>
    obtain rfl := Option.some.inj (Option.ite_none_right_eq_some.mp he).2
    exact hqueue head (by simp [hq])
  case h_2 share _ hs =>
    obtain rfl := Option.some.inj (Option.ite_none_right_eq_some.mp he).2
    exact hslot share hs
  case h_3 => cases he

/-- A slot taken sends a frame that has waited, under the own number and group (R81, R82). -/
theorem ShareLine.InRange.takeSlot (h : l.InRange) (cfg : Configuration) (now : Micros)
    (hcfg : configurationInRange cfg = true) : (l.takeSlot cfg now).InRange := by
  rcases l.takeSlot_cases cfg now with ⟨-, heq⟩ | ⟨body, heligible, heq⟩ <;> rw [heq]
  · exact h
  · obtain ⟨hstation, hgroup, -⟩ := configurationInRange_bounds cfg hcfg
    have hbody := h.eligible heligible
    obtain ⟨hqueue, hslot, -⟩ := h
    refine ⟨fun q hq => hqueue q (List.mem_of_mem_drop hq), fun b hb => ?_, ?_⟩
    · exact hslot b (Option.ite_none_left_eq_some.mp hb).2
    · rintro f ⟨⟩
      simp only [Frame.inRange, hbody, Bool.and_true, Bool.and_eq_true, decide_eq_true_eq]
      omega

end

end Sys2Proof.Machine
end

section
/-! SUPPORT. What the operations of station, classifier and tracker uphold of the Sampling Unit, the classifier and the
frames the part composes. The three go together: a frame is composed from the figures, and the figures come with the
reports that bring an ALERT (R56, R63, R97, R98). -/

namespace Sys2Proof.Machine

/-- All that a frame's ranges rest on: the configuration, the figures, the demand and the frames that wait already. -/
structure State.Composable (s : State) : Prop where
  ranges : ∀ cfg ∈ s.port.config, configurationInRange cfg = true
  sampler : s.sampler.Sound
  capability : ∀ cfg ∈ s.port.config, s.sampler.figures.capability ≤ cfg.rating
  inactive : s.port.config = none → s.sampler.figures.capability = 0
  received : s.allocator.latestC = s.sampler.figures.capability
  demand : s.DemandSound
  frames : s.FramesInRange

/-- Where `s` is sound, so is `t`: for the Sampling Unit, for the classifier, and for what frames are composed from. -/
structure Upholds (s t : State) : Prop where
  sampling : s.sampler.Sound → t.sampler.Sound
  classifying : s.classifier.Sound → t.classifier.Sound
  composing : s.Composable → t.Composable

/-- The blocks a frame is composed from, as far as its ranges rest on them. -/
def State.sources (s : State) : Sampler × Option Configuration × (Nat × Option Nat × Nat) :=
  (s.sampler, s.port.config, s.allocator.drawn)

section
variable {s t u : State} {cfg : Configuration}

theorem State.Composable.congr (h : t.Composable) (hsources : u.sources = t.sources) (hline : u.line.InRange) :
    u.Composable := by
  simp only [State.sources, Allocator.drawn, Prod.mk.injEq] at hsources
  obtain ⟨hsampler, hconfig, hdemand, hpending, hreceived⟩ := hsources
  obtain ⟨h1, h2, h3, h4, h5, h6, -⟩ := h
  simp only [← hsampler, ← hconfig, ← hreceived] at h1 h2 h3 h4 h5
  exact ⟨h1, h2, h3, h4, h5, by simpa only [State.DemandSound, hsampler, hconfig, hdemand, hpending] using h6, hline⟩

/-- Bounds that hold with a configuration and without one (R52, R54, R101, R134). -/
theorem State.Composable.bounds (h : t.Composable) :
    t.sampler.figures.voltage ≤ 1500 ∧ t.sampler.figures.capability ≤ 65535 ∧ t.allocator.demand ≤ 65535 ∧
      t.sampler.figures.current ≤ 65535 := by
  obtain ⟨-, -, -, -, -, hvoltage, hab, -⟩ := h.sampler
  obtain ⟨hconfigured, -, hinactive⟩ := h.demand
  refine ⟨by omega, ?_⟩
  cases hc : t.port.config with
  | none =>
    have := h.inactive hc
    obtain ⟨hdemand, -, hcurrent⟩ := hinactive hc
    omega
  | some cfg =>
    have := h.capability cfg hc
    obtain ⟨hdemand, -, hcurrent⟩ := hconfigured cfg hc
    obtain ⟨-, -, hrating, hscale, -⟩ := configurationInRange_bounds cfg (h.ranges cfg hc)
    omega

/-- The invariants of the blocks give what a frame's ranges rest on. -/
theorem State.Composable.of_sound (hconfiguration : t.ConfigurationSound) (hsampler : t.sampler.Sound)
    (hshared : t.FiguresShared) (hsetpoint : t.SetpointSound) (hdemand : t.DemandSound) (hframes : t.FramesInRange) :
    t.Composable := by
  obtain ⟨hranges, -⟩ := hconfiguration
  obtain ⟨hreceived, -⟩ := hshared
  obtain ⟨-, hinactive, hcapability, -⟩ := hsetpoint
  exact ⟨hranges, hsampler, hcapability, hinactive, hreceived, hdemand, hframes⟩

/-- The demand within a new configuration's rating makes the allocator's part of the invariant (R134). -/
theorem State.demandSound_of (hc : t.port.config = some cfg) (hdemand : t.allocator.DemandWithin cfg)
    (hcurrent : t.sampler.figures.current ≤ cfg.currentFullScale) (hsum : t.sampler.SumBounded) : t.DemandSound := by
  refine ⟨fun x hx => ?_, hsum, fun hn => by simp [hc] at hn⟩
  obtain rfl := Option.some.inj (hc.symm.trans hx)
  exact ⟨hdemand.1, hdemand.2, hcurrent⟩

theorem State.Composable.demandWithin (h : t.Composable) (hc : t.port.config = some cfg) :
    t.allocator.DemandWithin cfg ∧ t.sampler.figures.current ≤ cfg.currentFullScale := by
  obtain ⟨hdemand, hpending, hcurrent⟩ := h.demand.1 cfg hc
  exact ⟨⟨hdemand, hpending⟩, hcurrent⟩

/-! ### Elementary effects -/

theorem Upholds.refl : Upholds s s := ⟨id, id, id⟩

theorem Upholds.trans (h : Upholds s t) (h' : Upholds t u) : Upholds s u :=
  ⟨h'.sampling ∘ h.sampling, h'.classifying ∘ h.classifying, h'.composing ∘ h.composing⟩

/-- A change at the line alone, as far as the three see it. -/
theorem Upholds.atLine (h : Upholds s t) (hsources : u.sources = t.sources) (hclassifier : u.classifier = t.classifier)
    (hline : t.Composable → u.line.InRange) : Upholds s u := by
  have hsampler : u.sampler = t.sampler := congrArg Prod.fst hsources
  exact ⟨fun hs => hsampler ▸ h.sampling hs, fun hs => hclassifier ▸ h.classifying hs,
    fun hs => (h.composing hs).congr hsources (hline (h.composing hs))⟩

/-- A change that none of the three sees. -/
theorem Upholds.unseen (h : Upholds s t) (hsources : u.sources = t.sources) (hclassifier : u.classifier = t.classifier)
    (hframes : u.line.frames = t.line.frames) : Upholds s u :=
  h.atLine hsources hclassifier fun hs => ShareLine.InRange.congr (l := t.line) hs.frames hframes

theorem Upholds.setLine (h : Upholds s t) (l : ShareLine) (hl : t.line.InRange → l.InRange) : Upholds s (t.setLine l) :=
  h.atLine rfl rfl fun hs => hl hs.frames

theorem Upholds.setClassifier (h : Upholds s t) (x : Classifier) (hx : t.classifier.Sound → x.Sound) :
    Upholds s (t.setClassifier x) :=
  ⟨h.sampling, fun hs => hx (h.classifying hs), fun hs => (h.composing hs).congr rfl (h.composing hs).frames⟩

/-- The Sampling Unit moves on with its figures kept. -/
theorem Upholds.setSampler (h : Upholds s t) (m : Sampler) (hm : t.sampler.Sound →
      m.Sound ∧ (t.sampler.SumBounded → m.SumBounded) ∧ m.figures = t.sampler.figures) :
    Upholds s (t.setSampler m) := by
  refine ⟨fun hs => (hm (h.sampling hs)).1, h.classifying, fun hs => ?_⟩
  obtain ⟨h1, h2, h3, h4, h5, ⟨hconfigured, hbounded, hinactive⟩, h7⟩ := h.composing hs
  obtain ⟨hsound, hsum, hfigures⟩ := hm h2
  rw [← hfigures] at h3 h4 h5 hconfigured hinactive
  exact ⟨h1, hsound, h3, h4, h5, ⟨hconfigured, hsum hbounded, hinactive⟩, h7⟩

/-- The allocator of a configured part moves on with C kept and the demand within the rating. -/
theorem Upholds.setAllocator (h : Upholds s t) (a : Allocator) (hc : t.port.config = some cfg)
    (hreceived : a.latestC = t.allocator.latestC) (hd : t.allocator.DemandWithin cfg → a.DemandWithin cfg) :
    Upholds s (t.setAllocator a) := by
  refine ⟨h.sampling, h.classifying, fun hs => ?_⟩
  have ht := h.composing hs
  obtain ⟨hdemand, hcurrent⟩ := ht.demandWithin hc
  exact ⟨ht.ranges, ht.sampler, ht.capability, ht.inactive, hreceived.trans ht.received,
    State.demandSound_of hc (hd hdemand) hcurrent ht.demand.2.1, ht.frames⟩

theorem Upholds.count (h : Upholds s t) (k : EventKind) : Upholds s (t.count k) := h.unseen rfl rfl rfl

theorem Upholds.countIf (h : Upholds s t) (came : Bool) (k : EventKind) : Upholds s (t.countIf came k) := by
  unfold State.countIf
  split
  · exact h.count k
  · exact h

theorem Upholds.answer (h : Upholds s t) (r : Response) : Upholds s (t.answer r) := h.unseen rfl rfl rfl

theorem Upholds.setPort (h : Upholds s t) (p : SupervisorPort) (hp : p.config = t.port.config) :
    Upholds s (t.setPort p) := by
  refine h.unseen ?_ rfl rfl
  simp [State.sources, hp]

/-! ### The Station Controller -/

theorem Upholds.enter (h : Upholds s t) (cfg : Configuration) (dest : StationState) : Upholds s (t.enter cfg dest) :=
  h.atLine rfl rfl fun hs => ShareLine.InRange.enter (l := t.line) hs.frames _ _ _

theorem Upholds.emptyStack (h : Upholds s t) : Upholds s t.emptyStack := h.unseen rfl rfl rfl

theorem Upholds.enterStandby (h : Upholds s t) (origin : StandbyOrigin) : Upholds s (t.enterStandby cfg origin) :=
  (h.enter cfg .standby).unseen rfl rfl rfl

theorem Upholds.enterStopping (h : Upholds s t) (destination : Destination) (origin : Option StoppingOrigin) :
    Upholds s (t.enterStopping cfg destination origin) :=
  (h.enter cfg .stopping).unseen rfl rfl rfl

/-- An ALERT lies within the layout's ranges in every state that has a code (R6, R95, R101). -/
theorem State.Composable.alertBody_inRange (h : t.Composable) (kind : AlertKind) (hu : t.station.state ≠ .unconfigured)
    (ho : t.station.state ≠ .off) : (Body.alert (t.alertBody kind)).inRange = true := by
  obtain ⟨hvoltage, hcapability, hdemand, -⟩ := h.bounds
  have hcode := StationState.code_bounds hu ho
  have hshortfall := ownShortfall_le t.station.state t.station.standbyOrigin t.allocator.demand
    (min t.allocator.setpoint t.sampler.figures.capability) t.sampler.figures.capability
  simp only [Body.inRange, State.alertBody, Bool.and_eq_true, within_iff]
  omega

theorem Upholds.queueAlert (h : Upholds s t) (kind : AlertKind) (hu : t.station.state ≠ .unconfigured)
    (ho : t.station.state ≠ .off) : Upholds s (t.queueAlert kind) := by
  refine h.atLine (by simp [State.sources]) (by simp) fun hs => ?_
  rcases t.queueAlert_line kind with heq | ⟨-, heq⟩ <;> rw [heq]
  · exact hs.frames
  · exact ShareLine.InRange.join hs.frames _ _ (hs.alertBody_inRange kind hu ho)

theorem Upholds.trip (h : Upholds s t) (cause : TripCause) : Upholds s (t.trip cfg cause) := by
  unfold State.trip
  split
  · exact h
  · exact h.unseen rfl rfl rfl
  all_goals
    have hhanded : Upholds s (t.setFault (t.fault.take (t.tripPicture cause))) := h.unseen rfl rfl rfl
    exact ((hhanded.enter cfg .tripped).emptyStack.queueAlert .trip (by simp [State.emptyStack])
      (by simp [State.emptyStack])).count .trip

/-- An entry into STANDBY with its ALERT (R19, R20, R25). -/
theorem Upholds.standbyAlert (h : Upholds s t) (origin : StandbyOrigin) :
    Upholds s ((t.enterStandby cfg origin).queueAlert .standby) :=
  (h.enterStandby origin).queueAlert .standby (by simp [State.enterStandby, State.emptyStack])
    (by simp [State.enterStandby, State.emptyStack])

theorem Upholds.protectionStandby (h : Upholds s t) : Upholds s (t.protectionStandby cfg) := by
  unfold State.protectionStandby
  split
  case h_1 | h_2 | h_3 | h_4 | h_5 | h_6 | h_7 => exact h.standbyAlert .protection
  all_goals exact h

theorem Upholds.testStart (h : Upholds s t) : Upholds s (t.testStart cfg) := by
  unfold State.testStart
  split
  · exact h.enter cfg .starting
  · exact h

theorem Upholds.enterDestination (h : Upholds s t) : Upholds s (t.enterDestination cfg) := by
  unfold State.enterDestination
  split
  · exact h.enter cfg .off
  · exact h.enterStandby _
  · exact h

theorem Upholds.testStopping (h : Upholds s t) : Upholds s (t.testStopping cfg) := by
  unfold State.testStopping
  split
  · exact h.enterDestination
  · exact h

theorem Upholds.boundaryTests (h : Upholds s t) : Upholds s (t.boundaryTests cfg) := by
  unfold State.boundaryTests
  split
  · exact h.testStart
  · exact h.testStopping
  all_goals exact h

theorem Upholds.pushContext (h : Upholds s t) (setpoint : Nat) : Upholds s (t.pushContext setpoint) :=
  h.unseen rfl rfl rfl

theorem Upholds.rideOut (h : Upholds s t) (setpoint : Nat) : Upholds s (t.rideOut cfg setpoint) :=
  ((h.pushContext setpoint).enter cfg .ride).queueAlert .onset (by simp) (by simp)

theorem Upholds.enterBlocked (h : Upholds s t) : Upholds s (t.enterBlocked cfg) :=
  (h.enter cfg .blocked).queueAlert .block (by simp) (by simp)

theorem Upholds.escalate (h : Upholds s t) : Upholds s (t.escalate cfg) := (h.standbyAlert .escalation).count .escalation

theorem Upholds.reactTo (h : Upholds s t) (x : Transition) (setpoint : Nat) : Upholds s (t.reactTo cfg x setpoint) := by
  unfold State.reactTo
  split
  case h_1 => exact h.testStart
  case h_2 | h_3 => exact h.enter cfg .syncing
  case h_4 => exact h.rideOut setpoint
  case h_5 => exact (h.pushContext setpoint).enterBlocked
  case h_6 => exact h.enterBlocked
  case h_7 | h_8 => exact h.enter cfg .restart
  case h_9 =>
    split
    · exact h.rideOut setpoint
    · exact h.escalate
  case h_10 =>
    split
    · exact (h.pushContext setpoint).enterBlocked
    · exact h.escalate
  case h_11 => exact h.enterDestination
  case h_12 => exact h

theorem Upholds.endOfUpdate (h : Upholds s t) (ms : Nat) : Upholds s (t.endOfUpdate cfg ms) := by
  unfold State.endOfUpdate
  split
  · split
    · exact h.enter cfg .run
    · exact h
  · split
    · exact ((h.enter cfg .run).emptyStack.queueAlert .recovered (by simp [State.emptyStack])
        (by simp [State.emptyStack])).count .recovered
    · exact h
  · exact h.testStopping
  · exact h.unseen rfl rfl rfl
  all_goals exact h

theorem Upholds.takeStart (h : Upholds s t) : Upholds s (t.takeStart cfg) := by
  unfold State.takeStart
  split
  case h_1 | h_2 => exact (h.enter cfg .syncing).answer _
  all_goals exact h.answer _

theorem Upholds.takeStop (h : Upholds s t) : Upholds s (t.takeStop cfg) := by
  unfold State.takeStop
  split
  case h_1 => exact (h.enter cfg .off).answer _
  case h_2 | h_3 | h_4 | h_5 => exact (h.enterStopping .off none).answer _
  case h_6 | h_7 => exact (h.enter cfg .off).emptyStack.answer _
  case h_8 => exact h.unseen rfl rfl rfl
  all_goals exact h.answer _

theorem Upholds.takeStandby (h : Upholds s t) : Upholds s (t.takeStandby cfg) := by
  unfold State.takeStandby
  split
  case h_1 | h_2 | h_3 | h_4 => exact (h.enterStopping .standby (some .request)).answer _
  case h_5 | h_6 => exact (h.enterStandby .request).answer _
  all_goals exact h.answer _

theorem Upholds.takeClearFault (h : Upholds s t) : Upholds s (t.takeClearFault cfg) := by
  unfold State.takeClearFault
  split
  case h_1 =>
    split
    · exact h.answer _
    · have hcleared : Upholds s (t.setFault FaultRecord.reset) := h.unseen rfl rfl rfl
      exact (hcleared.enter cfg .off).answer _
  all_goals exact h.answer _

theorem Upholds.resetStation (h : Upholds s t) (hc : t.port.config = some cfg) : Upholds s (t.resetStation cfg) := by
  have hdropped : Upholds s (t.setAllocator t.allocator.dropDemand) :=
    h.setAllocator _ hc rfl fun _ => ⟨Nat.zero_le _, by simp [Allocator.dropDemand]⟩
  unfold State.resetStation
  split
  case h_1 | h_2 => exact h
  case h_3 => exact hdropped
  all_goals exact (hdropped.enter cfg .off).emptyStack

/-! ### The classifier (R63 to R75) -/

theorem Upholds.report (h : Upholds s t) (x : Classifier) (onset : Bool) (setpoint : Nat)
    (hx : t.classifier.Sound → x.Sound) : Upholds s (t.report cfg x onset setpoint) :=
  (h.setClassifier x hx).reactTo _ setpoint

theorem Upholds.countOnset (h : Upholds s t) (kind : DisturbanceKind) (entered : ClassifierState) :
    Upholds s (t.countOnset kind entered) := by
  unfold State.countOnset
  split <;> split
  · exact ((h.count _).count _).count _
  · exact (h.count _).count _
  · exact (h.count _).count _
  · exact h.count _

theorem Upholds.openDisturbance (h : Upholds s t) (kind : DisturbanceKind) (entered : ClassifierState) (setpoint : Nat)
    (he : entered = .disturbed ∨ entered = .outside ∧ kind ≠ .frequency) :
    Upholds s (t.openDisturbance cfg kind entered setpoint) := by
  refine (h.countOnset kind entered).report _ true setpoint fun hs => ?_
  have hframe : (t.countOnset kind entered).classifier = t.classifier := by simp
  exact (hframe ▸ hs : t.classifier.Sound).openDisturbance kind entered t.time he

theorem Upholds.goOutside (h : Upholds s t) (setpoint : Nat) (hd : t.classifier.state = .disturbed) :
    Upholds s (t.goOutside cfg setpoint) :=
  (h.count .block).report _ false setpoint fun hs => Classifier.Sound.goOutside (c := t.classifier) hs hd

theorem Upholds.joinKind (h : Upholds s t) (kind : DisturbanceKind) (hk : kind ≠ .frequency)
    (hp : t.classifier.InProgress) : Upholds s (t.joinKind kind) :=
  h.setClassifier _ fun hs => hs.join kind hk hp

theorem Upholds.joinSag (h : Upholds s t) (v : Nat) (hp : t.classifier.InProgress) : Upholds s (t.joinSag cfg v) := by
  unfold State.joinSag
  split
  · exact h.joinKind .sag (by decide) hp
  · exact h

theorem State.joinSag_classifierState (v : Nat) : (t.joinSag cfg v).classifier.state = t.classifier.state := by
  unfold State.joinSag
  split <;> rfl

theorem Upholds.restartConfirm (h : Upholds s t) (hr : t.classifier.state = .recovering) : Upholds s t.restartConfirm :=
  h.setClassifier _ fun hs => hs.restartConfirm t.time hr

theorem Upholds.sagOnset (h : Upholds s t) (v setpoint : Nat) : Upholds s (t.sagOnset cfg v setpoint) := by
  refine h.openDisturbance .sag _ setpoint ?_
  split
  · exact .inl rfl
  · exact .inr ⟨rfl, by decide⟩

theorem Upholds.testRecovery (h : Upholds s t) (v setpoint : Nat) (hp : t.classifier.InProgress) :
    Upholds s (t.testRecovery cfg v setpoint) := by
  unfold State.testRecovery
  split
  · exact h.report _ false setpoint fun hs => hs.recovering t.time hp
  · exact h

theorem Upholds.classifyFigure (h : Upholds s t) (v setpoint : Nat) : Upholds s (t.classifyFigure cfg v setpoint) := by
  have hjoined := State.joinSag_classifierState (t := t) (cfg := cfg) v
  unfold State.classifyFigure
  split
  case h_1 => exact h
  case h_2 =>
    split
    · exact h.sagOnset v setpoint
    · exact h
  case h_3 hr =>
    split
    · exact h.sagOnset v setpoint
    · split
      · exact h.restartConfirm hr
      · exact h
  case h_4 hd =>
    split
    · exact (h.joinSag v (.inl hd)).goOutside setpoint (hjoined.trans hd)
    · exact (h.joinSag v (.inl hd)).testRecovery v setpoint (.inl (hjoined.trans hd))
  case h_5 ho => exact (h.joinSag v (.inr (.inl ho))).testRecovery v setpoint (.inr (.inl (hjoined.trans ho)))

theorem Upholds.classifyPhaseJump (h : Upholds s t) : Upholds s (t.classifyPhaseJump cfg) := by
  unfold State.classifyPhaseJump
  split
  case h_1 => exact h
  case h_2 | h_3 => exact h.openDisturbance .phase .disturbed _ (.inl rfl)
  case h_4 hd => exact h.joinKind .phase (by decide) (.inl hd)
  case h_5 ho => exact h.joinKind .phase (by decide) (.inr (.inl ho))

theorem Upholds.classifySyncLoss (h : Upholds s t) : Upholds s (t.classifySyncLoss cfg) := by
  unfold State.classifySyncLoss
  split
  case h_1 => exact h
  case h_2 | h_3 => exact h.openDisturbance .sync .outside _ (.inr ⟨rfl, by decide⟩)
  case h_4 hd => exact (h.joinKind .sync (by decide) (.inl hd)).goOutside _ hd
  case h_5 ho => exact h.joinKind .sync (by decide) (.inr (.inl ho))

theorem Upholds.joinFrequency (h : Upholds s t) (hp : t.classifier.state = .disturbed ∨ t.classifier.state = .outside) :
    Upholds s t.joinFrequency := by
  unfold State.joinFrequency
  split
  · exact h
  · exact Upholds.count (h.setClassifier _ fun hs => hs.joinFrequency t.time hp) .freqOut

theorem Upholds.actOnBand (h : Upholds s t) : Upholds s (t.actOnBand cfg) := by
  have honset : Upholds s (t.openDisturbance cfg .frequency .disturbed t.allocator.setpoint) :=
    h.openDisturbance .frequency .disturbed _ (.inl rfl)
  unfold State.actOnBand
  split
  case h_1 => exact h
  case h_2 =>
    split
    · exact honset
    · exact h
  case h_3 hr =>
    split
    · exact honset
    · split
      · exact h
      · exact h.restartConfirm hr
  case h_4 hd =>
    split
    · exact h.joinFrequency (.inl hd)
    · exact h
  case h_5 ho =>
    split
    · exact h.joinFrequency (.inr ho)
    · exact h

theorem Upholds.classifyFrequency (h : Upholds s t) (f : Nat) : Upholds s (t.classifyFrequency cfg f) := by
  unfold State.classifyFrequency
  split
  · exact h
  · exact (h.setClassifier _ fun hs => hs.recordFigure cfg f).actOnBand

/-! ### The tracker (R29 to R41, R49, R50) -/

theorem Upholds.setTracker (h : Upholds s t) (k : Tracker) : Upholds s (t.setTracker k) := h.unseen rfl rfl rfl

theorem Upholds.extendRun (h : Upholds s t) (interval : Nat) : Upholds s (t.extendRun cfg interval) := by
  unfold State.extendRun
  split
  · exact (h.setTracker _).setSampler _ fun hs => ⟨hs, id, rfl⟩
  · exact h.setTracker _

theorem Upholds.acquire (h : Upholds s t) (interval : Nat) : Upholds s (t.acquire cfg interval) := by
  unfold State.acquire
  split
  · exact h.extendRun interval
  · split
    · exact h.extendRun interval
    · exact h.setTracker _

theorem Upholds.reportBand (h : Upholds s t) (error : Int) : Upholds s (t.reportBand cfg error) := by
  unfold State.reportBand
  split
  · exact h
  · split
    · exact h.count _
    · exact (h.count _).classifyPhaseJump

theorem Upholds.plausibleCapture (h : Upholds s t) (interval : Nat) : Upholds s (t.plausibleCapture cfg interval) := by
  unfold State.plausibleCapture
  split
  · exact h.setTracker _
  · exact h.acquire interval
  · exact (h.setTracker _).reportBand _

theorem Upholds.capture (h : Upholds s t) : Upholds s (t.capture cfg) := by
  have hrecorded : Upholds s (t.setTracker { t.tracker with previous := some t.time }) := h.setTracker _
  have hjudged : Upholds s (t.judgeCapture cfg) := by
    unfold State.judgeCapture
    split
    · exact hrecorded
    · split
      · exact hrecorded.plausibleCapture _
      · exact hrecorded
  exact hjudged.classifyFrequency _

theorem Upholds.loseSync (h : Upholds s t) : Upholds s (t.loseSync cfg) := by
  have hfreed : Upholds s ((t.setTracker t.tracker.lose).setSampler (t.sampler.lossNotice cfg t.time)) := by
    rcases t.sampler.lossNotice_cases cfg t.time with heq | ⟨due, heq⟩ <;> rw [heq] <;>
      exact (h.setTracker _).setSampler _ fun hs => ⟨hs, id, rfl⟩
  have hblocked : Upholds s (((t.setTracker t.tracker.lose).setSampler (t.sampler.lossNotice cfg t.time)).setGates
      t.gates.block) := hfreed.unseen rfl rfl rfl
  exact (hblocked.count .syncLoss).classifySyncLoss

end

end Sys2Proof.Machine
end

section
/-! SUPPORT. What a figure set, a share update, a received frame, the port and the resets uphold of the Sampling Unit, the
classifier and the frames the part composes; every command and every step; and with them O52 and O59. -/

namespace Sys2Proof.Machine

section
variable {s t u : State} {cfg : Configuration}

/-! ### A figure set and its neighbours (R52 to R59, R154, R161) -/

/-- The figure set that replaces the previous one lies in its ranges, and the allocator takes its C (R52 to R56, R148). -/
theorem Upholds.formFigureSet (h : Upholds s t) (hc : t.port.config = some cfg) : Upholds s (t.formFigureSet cfg) := by
  refine ⟨fun hs => (h.sampling hs).closeSector cfg, h.classifying, fun hs => ?_⟩
  have ht := h.composing hs
  have hsum : t.sampler.SumBounded := ht.demand.2.1
  refine ⟨ht.ranges, ht.sampler.closeSector cfg, fun x hx => ?_, fun hn => ?_, rfl, ?_, ht.frames⟩
  · obtain rfl := Option.some.inj (hc.symm.trans hx)
    exact formFigures_capability_le t.sampler cfg
  · exact absurd (hc.symm.trans hn) (Option.some_ne_none cfg)
  · exact State.demandSound_of hc (ht.demandWithin hc).1 (hsum.current_le cfg) hsum

theorem Upholds.act {d : Delivery} (h : Upholds s d.state) (r : FigureReport) (n : Neighbour) :
    Upholds s (d.act cfg r n).state := by
  cases n <;> dsimp only [Delivery.act]
  case classifier => exact h.classifyFigure _ _
  case overcurrent =>
    split
    · exact h.trip _
    · exact h
  case overTemperature =>
    split
    · exact h.trip _
    · exact h
  case controller => exact h.boundaryTests
  case regulator =>
    split
    · exact h
    · unfold Delivery.regulate
      split
      · dsimp only
        split <;> exact h.unseen rfl rfl rfl
      · exact h
  case generator =>
    split
    · exact h
    · exact h.unseen rfl rfl rfl

theorem Upholds.deliver (h : Upholds s t) (r : FigureReport) (order : List Neighbour) :
    Upholds s (t.deliver cfg r order) := by
  have hall (l : List Neighbour) : ∀ d : Delivery, Upholds s d.state →
      Upholds s (l.foldl (Delivery.pass cfg r) d).state := by
    induction l with
    | nil => exact fun _ hd => hd
    | cons n rest ih => exact fun d hd => ih _ (by simpa [Delivery.pass] using hd.act r n)
  exact hall _ _ h

theorem Upholds.takeBoundary (h : Upholds s t) (b : Option Boundary) (start : Micros) (base : Nat) (plant : PlantInputs)
    (order : List Neighbour) (hc : t.port.config = some cfg) :
    Upholds s (t.takeBoundary cfg b start base plant order) := by
  have hdelivered : Upholds s ((t.formFigureSet cfg).deliver cfg (t.figureReport cfg b) order) :=
    (h.formFigureSet hc).deliver _ _
  refine hdelivered.setSampler _ fun hs => ?_
  obtain ⟨hsound, hsum, hfigures⟩ := hs.nextSector cfg start base plant
  exact ⟨hsound, fun _ => hsum, hfigures⟩

/-! ### The share update (R97, R136 to R146) -/

/-- A SHARE frame lies within its ranges in every state that sends one, if the allocator's figures do (R97, R101). -/
theorem State.Composable.shareBody_inRange (h : t.Composable) (hc : t.port.config = some cfg)
    (hu : t.station.state.updates = true) (hshortfall : t.allocator.shortfall ≤ t.allocator.demand)
    (hheadroom : t.allocator.headroom ≤ cfg.coverLimit) (hcover : t.allocator.cover ≤ t.allocator.headroom) :
    (Body.share (t.shareBody cfg)).inRange = true := by
  obtain ⟨hvoltage, hcapability, hdemand, hcurrent⟩ := h.bounds
  obtain ⟨-, -, hrating, -, -, hperiod, hlimit, -⟩ := configurationInRange_bounds cfg (h.ranges cfg hc)
  have hcode : 1 ≤ t.station.state.code ∧ t.station.state.code ≤ 9 := by
    refine StationState.code_bounds ?_ (StationState.ne_off_of_updates hu)
    intro hn
    simp [hn, StationState.updates] at hu
  simp only [Body.inRange, State.shareBody, Bool.and_eq_true, within_iff]
  omega

theorem Upholds.placeShare (h : Upholds s t) (body : ShareBody)
    (hb : t.Composable → (Body.share body).inRange = true) : Upholds s (t.placeShare body) := by
  refine h.atLine (by simp [State.sources]) (by simp) fun hs => ?_
  obtain ⟨hqueue, -, htransmission⟩ := hs.frames
  exact ⟨hqueue, by rintro b ⟨⟩; exact hb hs, htransmission⟩

/-- Steps 1 to 9: the figures of the frame are the update's own, whatever the allocator held before (R136 to R145). -/
theorem Upholds.allocate (h : Upholds s t) (hc : t.port.config = some cfg) (hu : t.station.state.updates = true) :
    Upholds s (t.allocate cfg) := by
  have hupdated : Upholds s (t.setAllocator
      (t.allocator.update cfg t.station.state t.station.standbyOrigin t.peers t.time)) :=
    h.setAllocator _ hc rfl fun hd => hd.applyPending
  refine ((hupdated.countIf _ _).countIf _ _).placeShare _ fun hs => ?_
  refine hs.shareBody_inRange (by simpa using hc) (by simpa using hu) ?_ ?_ ?_
  · simpa [Allocator.update] using ownShortfall_le ..
  · simpa [Allocator.update] using ownHeadroom_le ..
  · simpa [Allocator.update] using coverOf_le ..

theorem Upholds.restartShareTimer (h : Upholds s t) (due : Micros) (hc : t.port.config = some cfg) :
    Upholds s (t.restartShareTimer cfg due) := h.setAllocator _ hc rfl id

theorem Upholds.runShareUpdate (h : Upholds s t) (hc : t.port.config = some cfg)
    (hu : t.station.state.updates = true) : Upholds s (t.runShareUpdate cfg) := (h.allocate hc hu).endOfUpdate _

theorem Upholds.shareExpiry (h : Upholds s t) (hc : t.port.config = some cfg) : Upholds s (t.shareExpiry cfg) := by
  unfold State.shareExpiry
  split
  · exact h
  · have hrestarted := h.restartShareTimer ‹_› hc
    dsimp only
    split
    · exact hrestarted.runShareUpdate (by simpa using hc) (by simpa using ‹_›)
    · exact hrestarted

theorem Upholds.earlyUpdate (h : Upholds s t) (hc : t.port.config = some cfg) : Upholds s (t.earlyUpdate cfg) := by
  unfold State.earlyUpdate
  split
  · rename_i hadmitted
    exact (h.restartShareTimer t.time hc).runShareUpdate (by simpa using hc)
      (by simpa using (Bool.and_eq_true _ _ ▸ hadmitted).1)
  · exact h

/-! ### Received frames (R102 to R118, R125) -/

theorem Upholds.handOver (h : Upholds s t) (f : Frame) (hc : t.port.config = some cfg) :
    Upholds s (t.handOver cfg f) := by
  have hcounted : Upholds s (t.setFilter (t.filter.countVerdict (t.verdict f))) := h.unseen rfl rfl rfl
  have haccepted : Upholds s ((t.setFilter (t.filter.countVerdict (t.verdict f))).acceptFrame f) :=
    hcounted.unseen (by simp [State.sources]) (by simp) (by simp)
  unfold State.handOver
  dsimp only
  split
  · split
    · exact haccepted.earlyUpdate (by simpa using hc)
    · exact haccepted
  all_goals exact hcounted

theorem Upholds.filterFrame (h : Upholds s t) (bytes : List Byte) (malformed : Bool) (hc : t.port.config = some cfg) :
    Upholds s (t.filterFrame cfg bytes malformed) := by
  unfold State.filterFrame
  split
  · exact h.unseen rfl rfl rfl
  · unfold State.passFrame
    split
    · exact h.trip _
    · split
      · exact h.unseen rfl rfl rfl
      · exact h.handOver _ hc

theorem Upholds.receiveCharacter (h : Upholds s t) (x : Character) (hc : t.port.config = some cfg) :
    Upholds s (t.receiveCharacter cfg x) := by
  have hbusy (a : Option Assembly) : Upholds s (t.setLine { t.line with view := .busy, assembly := a }) :=
    h.unseen rfl rfl rfl
  unfold State.receiveCharacter
  dsimp only
  split
  · exact (hbusy none).filterFrame _ _ (by simpa using hc)
  · exact hbusy _

theorem Upholds.receiveCharacters (xs : List Character) :
    ∀ {t : State}, Upholds s t → t.port.config = some cfg → Upholds s (t.receiveCharacters cfg xs) := by
  induction xs with
  | nil => exact fun h _ => h
  | cons x rest ih => exact fun h hc => ih (h.receiveCharacter x hc) (by simpa using hc)

theorem Upholds.abandonFrame (h : Upholds s t) (a : Assembly) (hc : t.port.config = some cfg) :
    Upholds s (t.abandonFrame cfg a) := by
  have hquiet : Upholds s (t.setLine (ShareLine.quieten { t.line with assembly := none } t.time)) :=
    h.unseen rfl rfl rfl
  exact hquiet.filterFrame _ _ (by simpa using hc)

theorem Upholds.collide (h : Upholds s t) (xs : List Character) (hc : t.port.config = some cfg) :
    Upholds s (t.collide cfg xs) := by
  have haborted : Upholds s ((t.setLine t.line.abort).count .collision) :=
    (h.setLine t.line.abort fun ⟨hqueue, hslot, _⟩ => ⟨hqueue, hslot, by simp⟩).count .collision
  unfold State.collide
  dsimp only
  split
  · exact .receiveCharacters xs (haborted.trip _) (by simpa using hc)
  · exact .receiveCharacters xs haborted (by simpa using hc)

/-! ### The Supervisor Port, the resets and the passing of time -/

theorem Upholds.takeForgetPeer (h : Upholds s t) (n : Nat) : Upholds s (t.takeForgetPeer cfg n) := by
  unfold State.takeForgetPeer
  split
  · exact h.answer _
  · split
    · exact h.answer _
    · split
      · exact h.answer _
      · exact h.answer _
      · exact h.unseen rfl rfl rfl

theorem Upholds.judge (h : Upholds s t) (message : List Byte) : Upholds s (t.judge message) := by
  unfold State.judge State.judgeComplete
  (repeat' split) <;> exact h.unseen rfl rfl rfl

/-- An accepted LOAD CONFIG finds demand and figures at 0, and starts the sampling (R45, R192). -/
theorem State.Composable.acceptConfiguration (h : t.Composable) (cfg : Configuration) (plant : PlantInputs)
    (hn : t.port.config = none) (hcfg : configurationInRange cfg = true) :
    (t.acceptConfiguration cfg plant).Composable := by
  obtain ⟨hsound, hsum, hfigures⟩ := h.sampler.activate cfg t.time plant
  obtain ⟨-, -, hzero⟩ := h.demand
  obtain ⟨hdemand, hpending, hcurrent⟩ := hzero hn
  have hkept : (t.acceptConfiguration cfg plant).sampler.figures = t.sampler.figures := hfigures
  have hwithin : (t.acceptConfiguration cfg plant).allocator.DemandWithin cfg := by
    simp [Allocator.DemandWithin, State.acceptConfiguration, Allocator.activate, hdemand, hpending]
  refine ⟨fun x hx => Option.some.inj hx ▸ hcfg, hsound, fun x _ => ?_, nofun, hkept ▸ h.received,
    State.demandSound_of (cfg := cfg) rfl hwithin ?_ hsum, h.frames⟩
  · simp [hkept, h.inactive hn]
  · simp [hkept, hcurrent]

theorem Upholds.acceptConfiguration (h : Upholds s t) (cfg : Configuration) (plant : PlantInputs)
    (hn : t.port.config = none) (hcfg : configurationInRange cfg = true) :
    Upholds s (t.acceptConfiguration cfg plant) :=
  ⟨fun hs => ((h.sampling hs).activate cfg t.time plant).1, fun _ => (by decide : Classifier.activate.Sound),
    fun hs => (h.composing hs).acceptConfiguration cfg plant hn hcfg⟩

theorem Upholds.takeLoadConfig (h : Upholds s t) (p : List Byte) (plant : PlantInputs) :
    Upholds s (t.takeLoadConfig p plant) := by
  unfold State.takeLoadConfig
  split
  · exact h.answer _
  · split
    · exact h.answer _
    · split
      · exact h.answer _
      · rename_i hl hn _ hf
        exact (h.acceptConfiguration _ plant (by simpa using hn)
          (configurationOf_inRange p (by simpa using hl) hf)).answer _

theorem Upholds.takeSetDemand (h : Upholds s t) (value : Nat) (hc : t.port.config = some cfg) :
    Upholds s (t.takeSetDemand cfg value) := by
  have hstored : Upholds s (t.setAllocator (t.allocator.storeDemand t.station.state (min value cfg.rating))) := by
    refine h.setAllocator _ hc ?_ fun hd => hd.storeDemand _ (Nat.min_le_right _ _)
    unfold Allocator.storeDemand
    split <;> rfl
  exact (hstored.countIf _ _).answer _

theorem Upholds.takeAckEvents (h : Upholds s t) (pairs : List (Nat × Nat)) : Upholds s (t.takeAckEvents pairs) := by
  unfold State.takeAckEvents
  split <;> exact h.unseen rfl rfl rfl

theorem Upholds.takeSample (h : Upholds s t) (n : Fin 4) (level : Bool) : Upholds s (t.takeSample n level) := by
  have hsampled : Upholds s (t.sampleInput n level) := h.unseen rfl rfl rfl
  rcases t.takeSample_cases n level with heq | ⟨cfg, -, -, heq⟩ <;> rw [heq]
  · exact hsampled
  · cases t.protection[n].action
    · exact hsampled.trip _
    · exact hsampled.protectionStandby
    · exact hsampled.count _

theorem Upholds.supervisorReset (h : Upholds s t) : Upholds s t.supervisorReset := by
  have hzeroed : Upholds s (((t.setPort t.port.supervisorReset).setEvents t.events.zero).setFilter t.filter.zero) :=
    h.unseen rfl rfl rfl
  unfold State.supervisorReset State.configured
  dsimp only
  split
  · exact hzeroed.unseen rfl rfl rfl
  · rename_i hc
    exact (hzeroed.resetStation hc).unseen rfl rfl rfl

/-- The values after power-on reset are sound, whatever stood before (R2, R44, R61, R131). -/
theorem Upholds.reset (s : State) : Upholds s ((State.reset.setPending s.pending).setPort
    { SupervisorPort.reset with srstAsserted := s.port.srstAsserted }) := by
  obtain ⟨-, hconfiguration, -, -, -, hsampler, hclassifier, -, -, -, hshared, hsetpoint, -, -, -, -, hdemand,
    hframes⟩ := resetIsSound
  have hcomposable : State.reset.Composable := .of_sound hconfiguration hsampler hshared hsetpoint hdemand hframes
  exact ⟨fun _ => hsampler, fun _ => hclassifier, fun _ => hcomposable.congr rfl hframes⟩

theorem Upholds.elapse (h : Upholds s t) (us : Nat) : Upholds s (t.elapse us) := by
  unfold State.elapse State.elapseConfigured State.configured
  split
  · exact h.unseen rfl rfl rfl
  · rename_i cfg _
    have hclassified : Upholds s (t.setClassifier (t.classifier.elapse cfg t.time us)) :=
      h.setClassifier _ fun hs => hs.elapse cfg t.time us
    exact hclassified.unseen rfl rfl rfl

/-! ### Commands and steps -/

theorem Upholds.ite {p : Prop} [Decidable p] (ht : p → Upholds s t) (hu : Upholds s u) :
    Upholds s (if p then t else u) := by
  split
  · exact ht ‹_›
  · exact hu

theorem Upholds.configured (f : Configuration → State) (hf : ∀ cfg, s.port.config = some cfg → Upholds s (f cfg)) :
    Upholds s (s.configured f) := by
  unfold State.configured
  split
  · exact .refl
  · exact hf _ ‹_›

theorem Upholds.takeConfigured (f : Configuration → State)
    (hf : ∀ cfg, s.port.config = some cfg → Upholds s (f cfg)) : Upholds s (s.takeConfigured f) := by
  unfold State.takeConfigured
  split
  · exact Upholds.refl.answer _
  · exact hf _ ‹_›

/-- A command that needs the configuration and acts when its event has come about. -/
theorem Upholds.whenDue (due : Configuration → Bool) (act : Configuration → State)
    (hact : ∀ cfg, s.port.config = some cfg → due cfg = true → Upholds s (act cfg)) :
    Upholds s (s.configured fun cfg => if due cfg then act cfg else s) :=
  .configured _ fun cfg hc => .ite (hact cfg hc) .refl

end

/-- Every command upholds the three. -/
theorem exec_upholds (c : Instr) (s t : State) (hexec : exec c s = .next t) : Upholds s t := by
  have h : Upholds s s := .refl
  cases c <;> obtain rfl := Host.Outcome.next.inj hexec
  case powerOnReset => exact .reset s
  case srst => exact h.supervisorReset
  case transferStart => exact .ite (fun _ => h.setPort _ (by unfold SupervisorPort.beginTransfer; split <;> rfl)) h
  case transferEnd =>
    split
    · exact h
    · exact (h.setPort { s.port with transfer := none, sdo := [] } rfl).judge _
  case loadConfig plant =>
    split
    · exact h.takeLoadConfig _ plant
    · exact h
  case setDemand =>
    split
    · exact .takeConfigured _ fun _ hc => h.takeSetDemand _ hc
    · exact h
  case readStatus => exact .ite (fun _ => h.unseen rfl rfl rfl) h
  case start => exact .ite (fun _ => .takeConfigured _ fun _ _ => h.takeStart) h
  case stop => exact .ite (fun _ => .takeConfigured _ fun _ _ => h.takeStop) h
  case standby => exact .ite (fun _ => .takeConfigured _ fun _ _ => h.takeStandby) h
  case clearFault => exact .ite (fun _ => .takeConfigured _ fun _ _ => h.takeClearFault) h
  case readPeer =>
    split
    · exact .takeConfigured _ fun _ _ => h.answer _
    · exact h
  case forgetPeer =>
    split
    · exact .takeConfigured _ fun _ _ => h.takeForgetPeer _
    · exact h
  case readEvents => exact .ite (fun _ => .takeConfigured _ fun _ _ => h.answer _) h
  case ackEvents =>
    split
    · exact .takeConfigured _ fun _ _ => h.takeAckEvents _
    · exact h
  case readFault => exact .ite (fun _ => .takeConfigured _ fun _ _ => h.answer _) h
  case capture => exact .configured _ fun _ _ => h.capture
  case lossOfSync => exact .whenDue (fun _ => s.lossDue) _ fun _ _ _ => h.loseSync
  case sectorBoundary plant order =>
    refine .whenDue (fun _ => s.boundaryDue) _ fun cfg hc _ => ?_
    unfold State.issueBoundary
    split
    · exact h
    · exact (h.setTracker _).takeBoundary _ _ _ _ _ hc
  case freeRunningBoundary plant order =>
    refine .whenDue (fun _ => s.freeBoundaryDue) _ fun cfg hc _ => ?_
    unfold State.freeBoundary
    split
    · exact h
    · rename_i due _
      exact (h.setSampler { s.sampler with freeTimer := some (afterMicros due (nominalSector cfg)) }
        fun hs => ⟨hs, id, rfl⟩).takeBoundary _ _ _ _ _ hc
  case sample plant =>
    refine .whenDue (fun _ => s.sampleDue) _ fun _ _ hdue => h.setSampler _ fun hs => ?_
    refine ⟨hs.convert plant fun x hx => ?_, fun hsum => hsum.convert plant, rfl⟩
    simp only [State.sampleDue, Option.mem_def.mp hx, Bool.and_eq_true, decide_eq_true_eq] at hdue
    exact hdue.1
  case recoveryConfirmTimerExpiry =>
    exact .whenDue s.confirmDue _ fun _ _ _ => h.report _ false _ fun hs => hs.recovered
  case frequencyTimerExpiry =>
    refine .whenDue s.frequencyTimerDue _ fun _ _ hdue => h.goOutside _ ?_
    exact of_decide_eq_true (Bool.and_eq_true _ _ ▸ hdue).1
  case blockedTimerExpiry =>
    exact .whenDue s.blockedTimerDue _ fun _ _ _ =>
      (h.standbyAlert .blockTimeout).count .blockTimeout
  case lowLoadTimerExpiry =>
    exact .whenDue s.lowLoadDue _ fun _ _ _ =>
      (h.count .lowLoad).enterStopping .standby (some .lowLoad)
  case shareUpdate => exact .whenDue (fun _ => s.shareDue) _ fun _ hc _ => h.shareExpiry hc
  case protectionEdge n level => exact .ite (fun _ => h) (h.takeSample n level)
  case firing =>
    exact .whenDue (fun _ => s.firingDue) _ fun _ _ _ => h.unseen (by simp [State.sources]) (by simp) (by simp)
  case pulseEnd g => exact .ite (fun _ => h.unseen rfl rfl rfl) h
  case seekingEnd => exact .ite (fun _ => h.unseen rfl rfl rfl) h
  case lineBusy => exact .ite (fun _ => h.unseen rfl rfl rfl) h
  case interframeGapEnd => exact .ite (fun _ => h.unseen rfl rfl rfl) h
  case frameAbandoned =>
    refine .configured _ fun _ hc => ?_
    split
    · exact h
    · exact .ite (fun _ => h.abandonFrame _ hc) h
  case frameReceived xs => exact .whenDue (fun _ => s.line.receiving) _ fun _ hc _ => .receiveCharacters xs h hc
  case accessSlot =>
    refine .configured _ fun cfg hc => .ite (fun _ => h.atLine rfl rfl fun hs => ?_) h
    exact ShareLine.InRange.takeSlot (l := s.line) hs.frames cfg s.time (hs.ranges cfg hc)
  case frameCompleted =>
    exact .ite (fun _ => h.setLine s.line.complete fun ⟨hqueue, hslot, _⟩ =>
      ⟨hqueue, hslot, by simp [ShareLine.complete]⟩) h
  case collision xs =>
    refine .configured _ fun _ hc => ?_
    split
    · exact h
    · exact .ite (fun _ => h.collide xs hc) h
  case alertExpiry =>
    exact .ite (fun _ => (h.setLine { s.line with alertQueue := s.line.alertQueue.drop 1 }
      fun ⟨hqueue, hrest⟩ => ⟨fun q hq => hqueue q (List.mem_of_mem_drop hq), hrest⟩).count .txDropped) h
  case peerSilent n => exact .whenDue (fun cfg => s.silentDue cfg n) _ fun _ _ _ => h.unseen rfl rfl rfl
  case peerLost n => exact .whenDue (fun cfg => s.lostDue cfg n) _ fun _ _ _ => h.unseen rfl rfl rfl
  case srstRelease => exact h.setPort _ rfl

/-- Every step upholds the three. -/
theorem step_upholds (s t : State) (hstep : step s = .next t) : Upholds s t := by
  unfold step at hstep
  split at hstep
  · obtain rfl := Host.Outcome.next.inj hstep
    unfold State.idle
    split
    · exact .refl
    · exact Upholds.refl.elapse 1
  · rename_i rest _
    have htaken : Upholds s (s.setPending rest) := Upholds.refl.unseen rfl rfl rfl
    exact htaken.trans (exec_upholds _ _ t hstep)

/-- Settles O52: every step upholds the Sampling Unit and the classifier, whatever else the part holds. -/
theorem everyStepKeepsSamplerAndClassifierSound : Obligations.EveryStepKeepsSamplerAndClassifierSound := by
  intro s t hsampler hclassifier hstep
  have hupholds := step_upholds s t hstep
  exact ⟨hupholds.sampling hsampler, hupholds.classifying hclassifier⟩

/-- Settles O59: what frames are composed from lies in range, and every step upholds that with the frames that wait. -/
theorem everyStepKeepsFramesInRange : Obligations.EveryStepKeepsFramesInRange := by
  intro s t hconfiguration hsampler hshared hsetpoint _ hdemand hframes hstep
  have hkept := (step_upholds s t hstep).composing
    (.of_sound hconfiguration hsampler hshared hsetpoint hdemand hframes)
  exact ⟨hkept.demand, hkept.frames⟩

end Sys2Proof.Machine
end

section
/-! SUPPORT. The data of a response, field by field as the statements read it, and READ STATUS (R85, R194, R196). -/

namespace Sys2Proof.Machine

/-! ### Fields of the data of a response (R196) -/

/-- A field of two bytes that stand at its offset. -/
theorem fieldAt_be16 {data : List Byte} {offset n : Nat} (h : (data.drop offset).take 2 = be16 n) :
    fieldAt data offset 2 = n % 65536 :=
  (congrArg unsignedBE h).trans (unsignedBE_be16 n)

/-- A field of four bytes that stand at its offset. -/
theorem fieldAt_be32 {data : List Byte} {offset n : Nat} (h : (data.drop offset).take 4 = be32 n) :
    fieldAt data offset 4 = n % 4294967296 := by
  have hfour : unsignedBE (be32 n) = n % 4294967296 := by
    simp [unsignedBE, be32, be16]
    omega
  exact (congrArg unsignedBE h).trans hfour

/-- A signed field is read back in two's complement. -/
theorem fieldAt_be16Signed {data : List Byte} {offset : Nat} {x : Int}
    (h : (data.drop offset).take 2 = be16Signed x) : BitVec.ofNat 16 (fieldAt data offset 2) = BitVec.ofInt 16 x := by
  rw [fieldAt_be16 h, Nat.mod_eq_of_lt (BitVec.isLt _), BitVec.ofNat_toNat, BitVec.setWidth_eq]

/-- A counter of sixteen bits is read back whole. -/
theorem fieldAt_counter {data : List Byte} {offset : Nat} {x : BitVec 16}
    (h : (data.drop offset).take 2 = be16 x.toNat) : fieldAt data offset 2 = x.toNat := by
  rw [fieldAt_be16 h, Nat.mod_eq_of_lt x.isLt]

/-- A field of one byte that stands at its offset. -/
theorem fieldAt_byte {data : List Byte} {offset : Nat} {b : Byte} (h : data[offset]? = some b) :
    fieldAt data offset 1 = b.toNat := by
  rw [fieldAt_one, byteAt, List.getD_eq_getElem?_getD, h, Option.getD_some]

theorem fieldAt_ofNat {data : List Byte} {offset n : Nat} (h : data[offset]? = some (BitVec.ofNat 8 n)) :
    fieldAt data offset 1 = n % 256 :=
  (fieldAt_byte h).trans (BitVec.toNat_ofNat n 8)

/-- A code below 256 is read back as it is. -/
theorem fieldAt_code {data : List Byte} {offset n : Nat} (h : data[offset]? = some (BitVec.ofNat 8 n)) (hn : n < 256) :
    fieldAt data offset 1 = n :=
  (fieldAt_ofNat h).trans (Nat.mod_eq_of_lt hn)

/-! ### Codes (R196) -/

theorem stateNumber_lt (x : StationState) : stateNumber x < 256 := by cases x <;> decide

theorem destinationCode_lt (x : Option Destination) : destinationCode x < 256 := by rcases x with _ | _ | _ <;> decide

theorem originCode_lt (x : Option StandbyOrigin) : originCode x < 256 := by
  rcases x with _ | _ | _ | _ | _ | _ <;> decide

theorem ClassifierState.code_lt (x : ClassifierState) : x.code < 256 := by cases x <;> decide

theorem TrackerState.code_lt (x : TrackerState) : x.code < 256 := by cases x <;> decide

theorem recordCode_eq (r : Option ContextRecord) : recordCode r = recordNumber r := by
  unfold recordCode recordNumber DisturbanceKind.code
  cases r <;> rfl

theorem recordNumber_lt (r : Option ContextRecord) : recordNumber r < 256 := by
  unfold recordNumber
  split
  · decide
  · split <;> decide

theorem countStatus_eq (peers : List Peer) (status : PeerStatus) :
    countStatus peers status = peers.countP fun p => decide (p.status = status) :=
  List.countP_eq_length_filter.symm

/-! ### Bit maps (R191, R196) -/

/-- Bit `i` of a byte of bits is the `i`-th of them. -/
theorem byteOfBits_getLsbD (bits : List Bool) (i : Nat) (hi : i < 8) :
    (byteOfBits bits).getLsbD i = bits.getD i false := by
  induction bits generalizing i with
  | nil => simp [byteOfBits]
  | cons b rest ih =>
    have hcons : byteOfBits (b :: rest) = byteOfBits rest <<< 1 ||| (if b then 1#8 else 0#8) := rfl
    rw [hcons, BitVec.getLsbD_or, BitVec.getLsbD_shiftLeft]
    cases i with
    | zero => cases b <;> simp
    | succ i => cases b <;> simp [ih i (by omega)] <;> omega

/-- The bit of kind `i` in a map of one bit per kind. -/
theorem kindMap_bit (f : Fin 24 → Bool) (i : Fin 24) :
    ((kindMap f).getD (i.val / 8) 0#8).getLsbD (i.val % 8) = f i := by
  have hmap (k : Nat) (hk : k < 24) : ((List.finRange 24).map f)[k]? = some (f ⟨k, hk⟩) := by
    simp [hk]
  have hbyte (j : Nat) (hj : j < 3) : (kindMap f).getD j 0#8 =
      byteOfBits ((((List.finRange 24).map f).drop (8 * j)).take 8) := by
    interval_cases j <;> rfl
  rw [hbyte _ (by omega), byteOfBits_getLsbD _ _ (by omega), List.getD_eq_getElem?_getD,
    List.getElem?_take_of_lt (by omega), List.getElem?_drop, hmap _ (by omega), Option.getD_some]
  exact congrArg f (Fin.ext (Nat.div_add_mod _ _))

/-- The active set in its byte: SAG 1, PHASE 2, FREQUENCY 4, SYNC 8. -/
theorem ActiveSet.toByte_toNat (a : ActiveSet) :
    a.toByte.toNat = (if a.sag then 1 else 0) + (if a.phase then 2 else 0) + (if a.frequency then 4 else 0) +
      (if a.sync then 8 else 0) := by
  obtain ⟨sag, phase, frequency, sync⟩ := a
  revert sag phase frequency sync
  decide

/-! ### READ STATUS (R194) -/

/-- The fields of READ STATUS in the order of R196; `State.statusReport_eq` ties them to the report. -/
def State.statusFields (s : State) : List (List Byte) :=
  [[BitVec.ofNat 8 s.station.state.code], [BitVec.ofNat 8 (destinationCode s.station.destination)],
   [BitVec.ofNat 8 (originCode s.station.standbyOrigin)], [BitVec.ofNat 8 s.classifier.state.code],
   [s.classifier.active.toByte], [BitVec.ofNat 8 s.tracker.state.code],
   be16 s.allocator.demand, be16 s.allocator.setpoint, be16 s.sampler.figures.current,
   be16 s.sampler.figures.capability, be16 s.allocator.shortfall, be16 s.allocator.headroom,
   be16 s.allocator.cover, be16 s.allocator.target, be16 s.regulator.lastAngle, be16 s.sampler.figures.voltage,
   be16 s.sampler.figures.dcVoltage, sinkBytes s.sampler.figures.sink, be16 s.tracker.figure,
   [BitVec.ofNat 8 s.station.stack.length], [BitVec.ofNat 8 (recordCode s.station.stack.head?)],
   [BitVec.ofNat 8 (recordCode s.station.stack.getLast?)],
   be32 s.allocator.shortfallSum, be32 s.allocator.headroomSum, be32 s.allocator.groupDelivered,
   [BitVec.ofNat 8 (countStatus s.peers .fresh)], [BitVec.ofNat 8 (countStatus s.peers .silent)],
   [BitVec.ofNat 8 (countStatus s.peers .lost)],
   be16 s.filter.accepted.toNat, be16 s.filter.checkErrors.toNat, be16 s.filter.otherGroup.toNat,
   be16 s.filter.duplicate.toNat, be16 s.filter.stale.toNat, [BitVec.ofNat 8 s.line.highWater],
   s.events.pendingSummary]

theorem State.statusReport_eq (s : State) : s.statusReport = s.statusFields.flatten := by
  unfold State.statusReport State.statusFields
  simp only [List.flatten_cons, List.flatten_nil, List.append_assoc, List.cons_append, List.nil_append, List.append_nil]

theorem exec_readStatus_of {s : State} (h : s.port.request = some .readStatus) :
    exec .readStatus s = .next { answered s .done s.statusReport with
      line := { s.line with highWater := s.line.alertQueue.length } } := by
  have hrequested : s.requested .readStatus = true := by simp [State.requested, h]
  show execReadStatus s = _
  rw [execReadStatus, if_pos hrequested]
  rfl

/-- The pending summary ends the report, behind 61 bytes (R194, R196). -/
theorem State.statusFields_pending (s : State) (i : Fin 24) :
    (s.statusFields.flatten.getD (61 + i.val / 8) 0#8).getLsbD (i.val % 8) = decide (0 < s.events.counters[i]) := by
  have hsummary : s.statusFields.flatten.drop 61 = kindMap s.events.isPending := rfl
  rw [List.getD_eq_getElem?_getD, ← List.getElem?_drop, hsummary, ← List.getD_eq_getElem?_getD, kindMap_bit]
  rfl

/-- Settles O13: the report is the fields of R196 one behind the other, and each is read back at its place. -/
theorem readStatusAnswersItsLayout : Obligations.ReadStatusAnswersItsLayout := by
  intro s hr
  have hcount (status : PeerStatus) (offset : Nat)
      (h : s.statusFields.flatten[offset]? = some (BitVec.ofNat 8 (countStatus s.peers status))) :
      fieldAt s.statusFields.flatten offset 1 = (s.peers.countP fun p => decide (p.status = status)) % 256 := by
    rw [fieldAt_ofNat h, countStatus_eq]
  have hrecord (r : Option ContextRecord) (offset : Nat)
      (h : s.statusFields.flatten[offset]? = some (BitVec.ofNat 8 (recordCode r))) :
      fieldAt s.statusFields.flatten offset 1 = recordNumber r :=
    fieldAt_code (recordCode_eq r ▸ h) (recordNumber_lt r)
  have hstate : fieldAt s.statusFields.flatten 0 1 = stateNumber s.station.state :=
    fieldAt_code (by rw [← stateCode_eq]; rfl) (stateNumber_lt _)
  have hactive : fieldAt s.statusFields.flatten 4 1 = _ := (fieldAt_byte rfl).trans s.classifier.active.toByte_toNat
  exact ⟨s.statusFields.flatten, s.statusReport_eq ▸ exec_readStatus_of hr, rfl,
    hstate, fieldAt_code rfl (destinationCode_lt _), fieldAt_code rfl (originCode_lt _),
    fieldAt_code rfl (ClassifierState.code_lt _), hactive, fieldAt_code rfl (TrackerState.code_lt _),
    fieldAt_be16 rfl, fieldAt_be16 rfl, fieldAt_be16 rfl, fieldAt_be16 rfl, fieldAt_be16 rfl, fieldAt_be16 rfl,
    fieldAt_be16 rfl, fieldAt_be16 rfl, fieldAt_be16 rfl, fieldAt_be16 rfl, fieldAt_be16 rfl,
    fieldAt_be16Signed rfl, fieldAt_be16 rfl,
    fieldAt_ofNat rfl, hrecord _ 33 rfl, hrecord _ 34 rfl,
    fieldAt_be32 rfl, fieldAt_be32 rfl, fieldAt_be32 rfl,
    hcount .fresh 47 rfl, hcount .silent 48 rfl, hcount .lost 49 rfl,
    fieldAt_counter rfl, fieldAt_counter rfl, fieldAt_counter rfl, fieldAt_counter rfl, fieldAt_counter rfl,
    fieldAt_ofNat rfl, s.statusFields_pending⟩

end Sys2Proof.Machine
end

section
/-! SUPPORT. The share line: its view, the access slots and the alert queue (R79 to R84, R87, R103). -/

namespace Sys2Proof.Machine

/-! ### The line view (R79, R80, R103) -/

theorem execFrameAbandoned_of {s : State} {cfg : Configuration} {a : Assembly} (hc : s.port.config = some cfg)
    (hview : s.line.view = .busy) (ha : s.line.assembly = some a) :
    execFrameAbandoned s = .next (s.abandonFrame cfg a) := by
  simp [execFrameAbandoned, State.configured, hc, hview, ha]

/-- Settles O38: each line command by the view it finds; the framing stage discards a frame that is abandoned. -/
theorem lineViewFollowsTheLine : Obligations.LineViewFollowsTheLine := by
  refine fun s => ⟨fun hview => ?_, fun hview => ?_, fun hview hassembly hsending => ?_,
    fun hview hassembly hsending => ?_, fun hconfig hview hassembly => ?_⟩
  · show execSeekingEnd s = _
    rw [execSeekingEnd, if_pos hview]
    rfl
  · show execSeekingEnd s = _
    rw [execSeekingEnd, if_neg hview]
  · have hreceiving : s.line.receiving = true := receiving_of_listening ⟨hview, hsending, .inl hassembly⟩
    show execLineBusy s = _
    rw [execLineBusy, if_pos ⟨hreceiving, hassembly⟩]
    rfl
  · show execInterframeGapEnd s = _
    rw [execInterframeGapEnd, if_pos ⟨hview, hassembly, hsending⟩]
    rfl
  · obtain ⟨cfg, hc⟩ := Option.ne_none_iff_exists'.mp hconfig
    obtain ⟨a, ha⟩ := Option.ne_none_iff_exists'.mp hassembly
    show execFrameAbandoned s = _
    rw [execFrameAbandoned_of hc hview ha, State.abandonFrame, State.filterFrame_discards _ _ (.inl rfl)]
    rfl

/-! ### Access (R81, R82) -/

section
variable {l : ShareLine} {cfg : Configuration} {now quiet : Micros}

/-- On a quiet line the station's alert slot begins 2 microseconds times its number into a cycle. -/
theorem ShareLine.atAlertSlot_iff (hview : l.view = .quiet) (hquiet : l.quietAt = some quiet) :
    l.atAlertSlot cfg now = true ↔ (now - quiet).toNat % 64 = 2 * cfg.station := by
  simp [ShareLine.atAlertSlot, ShareLine.cycleTime, hview, hquiet]

/-- On a quiet line the station's SHARE slot begins 32 microseconds behind its alert slot. -/
theorem ShareLine.atShareSlot_iff (hview : l.view = .quiet) (hquiet : l.quietAt = some quiet) :
    l.atShareSlot cfg now = true ↔ (now - quiet).toNat % 64 = 32 + 2 * cfg.station := by
  simp [ShareLine.atShareSlot, ShareLine.cycleTime, hview, hquiet]

/-- An own slot is one of the two, not yet taken, of a station that is not sending. -/
theorem ShareLine.atOwnSlot_iff (hview : l.view = .quiet) (hquiet : l.quietAt = some quiet)
    (hsending : l.transmission = none) :
    l.atOwnSlot cfg now = true ↔ l.slotTaken = false ∧
      ((now - quiet).toNat % 64 = 2 * cfg.station ∨ (now - quiet).toNat % 64 = 32 + 2 * cfg.station) := by
  simp [ShareLine.atOwnSlot, ShareLine.atAlertSlot_iff hview hquiet, ShareLine.atShareSlot_iff hview hquiet, hsending]

/-- While alerts wait, the head alone is eligible, and in the alert slot alone. -/
theorem ShareLine.eligible_of_alert {head : QueuedFrame} {tail : List QueuedFrame}
    (hqueue : l.alertQueue = head :: tail) :
    l.eligible cfg now = if l.atAlertSlot cfg now then some head.body else none := by
  unfold ShareLine.eligible
  rw [hqueue]

/-- While no alert waits, the SHARE frame is eligible in the SHARE slot. -/
theorem ShareLine.eligible_of_no_alert (hqueue : l.alertQueue = []) :
    l.eligible cfg now = if l.atShareSlot cfg now then l.shareSlot.map Body.share else none := by
  unfold ShareLine.eligible
  rw [hqueue]
  cases l.shareSlot <;> simp

theorem ShareLine.takeSlot_of_eligible {body : Body} (h : l.eligible cfg now = some body) :
    l.takeSlot cfg now = { l.startFrame cfg body with slotTaken := true } := by
  unfold ShareLine.takeSlot
  rw [h]

theorem ShareLine.takeSlot_of_none (h : l.eligible cfg now = none) :
    l.takeSlot cfg now = { l with slotTaken := true } := by
  unfold ShareLine.takeSlot
  rw [h]

end

section
variable {s : State} {cfg : Configuration}

theorem exec_accessSlot_of (hc : s.port.config = some cfg) (h : s.line.atOwnSlot cfg s.time = true) :
    exec .accessSlot s = .next { s with line := s.line.takeSlot cfg s.time } := by
  show execAccessSlot s = _
  simp [execAccessSlot, State.configured, hc, h, State.setLine]

theorem exec_accessSlot_of_not (hc : s.port.config = some cfg) (h : ¬ s.line.atOwnSlot cfg s.time = true) :
    exec .accessSlot s = .next s := by
  show execAccessSlot s = _
  simp [execAccessSlot, State.configured, hc, h]

end

theorem exec_frameCompleted_of {s : State} {f : Frame} (h : s.line.transmission = some f) :
    exec .frameCompleted s = .next { s with line := s.line.complete } := by
  show execFrameCompleted s = _
  rw [execFrameCompleted, if_pos (Option.isSome_of_mem h)]
  rfl

/-- Settles O39: the own slot that begins is taken by the frame eligible in it, or by nothing. -/
theorem accessSlotStartsTheDueFrame : Obligations.AccessSlotStartsTheDueFrame := by
  refine ⟨fun s cfg quiet offset hc hview hquiet hsending hoffset => ?_, fun s f hf => exec_frameCompleted_of hf⟩
  subst hoffset
  have halert := ShareLine.atAlertSlot_iff (cfg := cfg) (now := s.time) hview hquiet
  have hshare := ShareLine.atShareSlot_iff (cfg := cfg) (now := s.time) hview hquiet
  have hown := ShareLine.atOwnSlot_iff (cfg := cfg) (now := s.time) hview hquiet hsending
  refine ⟨fun head tail hqueue hfree hslot => ?_, fun share hqueue hwaits hfree hslot => ?_, fun hfree hidle => ?_,
    fun hother => exec_accessSlot_of_not hc fun h => ?_⟩
  · have heligible : s.line.eligible cfg s.time = some head.body := by
      rw [ShareLine.eligible_of_alert hqueue, if_pos (halert.mpr hslot)]
    rw [exec_accessSlot_of hc (hown.mpr ⟨hfree, .inl hslot⟩), ShareLine.takeSlot_of_eligible heligible]
    simp [ShareLine.startFrame, hqueue]
  · have heligible : s.line.eligible cfg s.time = some (.share share) := by
      rw [ShareLine.eligible_of_no_alert hqueue, if_pos (hshare.mpr hslot), hwaits, Option.map_some]
    rw [exec_accessSlot_of hc (hown.mpr ⟨hfree, .inr hslot⟩), ShareLine.takeSlot_of_eligible heligible]
    simp [ShareLine.startFrame, hqueue]
  · have hnone : s.line.eligible cfg s.time = none := by
      rcases hidle with ⟨hslot, hqueue⟩ | ⟨hslot, hwaits⟩
      · rw [ShareLine.eligible_of_no_alert hqueue, if_neg (by rw [hshare]; omega)]
      · cases hqueue : s.line.alertQueue with
        | nil =>
          have hempty : s.line.shareSlot = none := hwaits.resolve_left (absurd hqueue)
          rw [ShareLine.eligible_of_no_alert hqueue, hempty, Option.map_none, ite_self]
        | cons head tail => rw [ShareLine.eligible_of_alert hqueue, if_neg (by rw [halert]; omega)]
    rw [exec_accessSlot_of hc (hown.mpr ⟨hfree, hidle.imp And.left And.left⟩), ShareLine.takeSlot_of_none hnone]
  · obtain ⟨hfree, hslot⟩ := hown.mp h
    rcases hother with htaken | ⟨hnotAlert, hnotShare⟩
    · exact absurd htaken (by simp [hfree])
    · exact hslot.elim hnotAlert hnotShare

/-! ### Expiry (R84) -/

theorem State.alertExpiryDue_iff {s : State} {head : QueuedFrame} {tail : List QueuedFrame}
    (hqueue : s.line.alertQueue = head :: tail) :
    s.alertExpiryDue = true ↔ 20000 ≤ (s.time - head.queuedAt).toNat := by
  simp [State.alertExpiryDue, hqueue, hasRun]

/-- Settles O41: the head is dropped exactly when its 20 ms have passed. -/
theorem alertExpiryDropsTheHead : Obligations.AlertExpiryDropsTheHead := by
  intro s head tail hqueue
  have hdue := State.alertExpiryDue_iff hqueue
  refine ⟨fun hwaited => ?_, fun hyoung => ?_⟩ <;> show execAlertExpiry s = _
  · rw [execAlertExpiry, if_pos (hdue.mpr hwaited), hqueue]
    rfl
  · rw [execAlertExpiry, if_neg (by rw [hdue]; omega)]

end Sys2Proof.Machine
end

section
/-! SUPPORT. The Peer Table through its own operations and through every command: ascending station numbers, the own one
never among them, each field in its range (R104, R109, R112, R119); and with it O54 and O47. -/

namespace Sys2Proof.Machine

/-! ### Frames that the framing stage reads (R95, R103) -/

theorem byteAt_le (bytes : List Byte) (i : Nat) : byteAt bytes i ≤ 255 := by
  have := (bytes.getD i 0#8).isLt
  rw [byteAt]
  omega

theorem wordAt_le (bytes : List Byte) (i : Nat) : wordAt bytes i ≤ 65535 := by
  have := byteAt_le bytes i
  have := byteAt_le bytes (i + 1)
  rw [wordAt]
  omega

/-- A body that is read lies within the ranges of its layout: the bytes of a field without a test bound it (R95,
R103). -/
theorem bodyOf_inRange {kind : Nat} {bytes : List Byte} {body : Body} (h : bodyOf kind bytes = some body) :
    body.inRange = true := by
  have hword := wordAt_le bytes
  unfold bodyOf at h
  split at h
  · obtain ⟨htests, hbody⟩ := Option.ite_none_right_eq_some.mp h
    obtain rfl := Option.some.inj hbody
    simpa [Body.inRange, within, hword, and_assoc] using htests
  · split at h
    · split at h
      · cases h
      · obtain ⟨htests, hbody⟩ := Option.ite_none_right_eq_some.mp h
        obtain rfl := Option.some.inj hbody
        simpa [Body.inRange, within, hword, and_assoc] using htests
    · obtain ⟨-, hbody⟩ := Option.ite_none_right_eq_some.mp h
      obtain rfl := Option.some.inj hbody
      rfl

/-- A frame that is read lies within the ranges of the layout (R95, R103). -/
theorem frameOf_inRange {bytes : List Byte} {f : Frame} (h : frameOf bytes = some f) : f.inRange = true := by
  match bytes, h with
  | b0 :: b1 :: b2 :: b3 :: rest, h =>
    rw [frameOf_cons] at h
    obtain ⟨-, hread⟩ := Option.ite_none_right_eq_some.mp h
    obtain ⟨body, hbody, rfl⟩ := Option.map_eq_some_iff.mp hread
    have hgroup : b1.toNat / 64 < 4 := by
      have := b1.isLt
      omega
    simp [Frame.inRange, bodyOf_inRange hbody, hgroup, Nat.mod_lt]

/-- Settles O47: the bytes of a frame in range are read back, field for field. -/
theorem frameBytesReadBack : Obligations.FrameBytesReadBack := fun f h => f.frameOf_bytes h

/-! ### One entry (R109, R112, R115 to R117, R119) -/

/-- The fields that an accepted frame carries come in range (R95, R116, R117). -/
theorem Peer.Sound.takeBody {p : Peer} (h : p.Sound) {body : Body} (hbody : body.inRange = true) :
    (p.takeBody body).Sound := by
  cases body with
  | share b =>
    simp only [Body.inRange, Bool.and_eq_true, within_iff] at hbody
    simp only [Peer.Sound, Peer.takeBody, Option.mem_def, Option.some.injEq, forall_eq'] at h ⊢
    omega
  | alert b =>
    simp only [Body.inRange, Bool.and_eq_true, within_iff] at hbody
    obtain ⟨h1, -, -, h4, h5, -, -, -, h9, hrest⟩ := h
    simp only [Peer.Sound, Peer.takeBody]
    exact ⟨h1, by omega, by omega, h4, h5, by omega, by omega, by omega, h9, hrest⟩
  | leave => exact h

/-- A new entry is in range once the fields of its frame are in place (R112). -/
theorem Peer.created_takeBody_sound {n : Nat} {sequence : Byte} {body : Body} (hn : n ≤ 15)
    (hbody : body.inRange = true) (hleave : body ≠ .leave) : ((Peer.created n sequence).takeBody body).Sound := by
  cases body with
  | share b =>
    simp only [Body.inRange, Bool.and_eq_true, within_iff] at hbody
    simp [Peer.Sound, Peer.takeBody, Peer.created]
    omega
  | alert b =>
    simp only [Body.inRange, Bool.and_eq_true, within_iff] at hbody
    simp [Peer.Sound, Peer.takeBody, Peer.created]
    omega
  | leave => exact absurd rfl hleave

theorem Peer.Sound.missed_le {p : Peer} (h : p.Sound) : p.missed ≤ 255 := by
  obtain ⟨-, -, -, -, -, -, -, -, -, -, -, hmissed⟩ := h
  exact hmissed

theorem Peer.Sound.refresh {p : Peer} (h : p.Sound) (sequence : Byte) {missed : Nat} (hm : missed ≤ 255) :
    Peer.Sound { p.refresh sequence with missed := missed } := by
  obtain ⟨h1, h2, h3, h4, h5, h6, h7, h8, h9, h10, -, -⟩ := h
  exact ⟨h1, h2, h3, h4, h5, h6, h7, h8, h9, h10, Nat.zero_le _, hm⟩

/-- The age stays at 65,535 (R119). -/
theorem Peer.Sound.elapse {p : Peer} (h : p.Sound) (us : Nat) : (p.elapse us).Sound := by
  obtain ⟨h1, h2, h3, h4, h5, h6, h7, h8, h9, h10, -, h12⟩ := h
  exact ⟨h1, h2, h3, h4, h5, h6, h7, h8, h9, h10, Nat.min_le_left _ _, h12⟩

/-! ### The table (R109) -/

/-- The table of a station with number `own`: ascending numbers, the own one not among them, each entry in range. -/
structure TableSound (own : Nat) (peers : List Peer) : Prop where
  ascending : peers.Pairwise fun p q => p.station < q.station
  entries : ∀ p ∈ peers, p.Sound ∧ p.station ≠ own

namespace TableSound
variable {own : Nat} {peers : List Peer}

/-- Of the 16 numbers the own one is left out, so 15 entries are the most (R109). -/
theorem length_le (h : TableSound own peers) (hown : own ≤ 15) : peers.length ≤ 15 := by
  have hnodup : (peers.map Peer.station).Nodup := (List.pairwise_map.mpr h.ascending).imp Nat.ne_of_lt
  have hsubset : (peers.map Peer.station).toFinset ⊆ (Finset.range 16).erase own := by
    intro n hn
    obtain ⟨p, hp, rfl⟩ := List.mem_map.mp (List.mem_toFinset.mp hn)
    obtain ⟨⟨hstation, -⟩, hne⟩ := h.entries p hp
    exact Finset.mem_erase.mpr ⟨hne, Finset.mem_range.mpr (by omega)⟩
  calc peers.length = (peers.map Peer.station).toFinset.card := by
        rw [List.toFinset_card_of_nodup hnodup, List.length_map]
    _ ≤ ((Finset.range 16).erase own).card := Finset.card_le_card hsubset
    _ = 15 := by rw [Finset.card_erase_of_mem (Finset.mem_range.mpr (by omega)), Finset.card_range]

theorem insert (h : TableSound own peers) {p : Peer} (hp : p.Sound) (hown : p.station ≠ own)
    (hnew : ∀ q ∈ peers, q.station ≠ p.station) : TableSound own (insertPeer p peers) := by
  refine ⟨insertPeer_pairwise p peers h.ascending hnew, fun q hq => ?_⟩
  rcases (mem_insertPeer p q peers).mp hq with rfl | hq
  · exact ⟨hp, hown⟩
  · exact h.entries q hq

theorem remove (h : TableSound own peers) (n : Nat) : TableSound own (removePeer peers n) :=
  ⟨removePeer_pairwise peers n h.ascending, fun p hp => h.entries p (List.mem_filter.mp hp).1⟩

/-- A change of every entry that keeps its number and its ranges. -/
theorem map (h : TableSound own peers) (f : Peer → Peer) (hstation : ∀ p, (f p).station = p.station)
    (hsound : ∀ p, p.Sound → (f p).Sound) : TableSound own (peers.map f) := by
  refine ⟨List.pairwise_map.mpr (h.ascending.imp fun hlt => ?_), List.forall_mem_map.mpr fun p hp => ?_⟩
  · simpa only [hstation] using hlt
  · obtain ⟨hp, hne⟩ := h.entries p hp
    exact ⟨hsound p hp, by rwa [hstation]⟩

theorem update (h : TableSound own peers) (n : Nat) (f : Peer → Peer) (hstation : ∀ p, (f p).station = p.station)
    (hsound : ∀ p, p.Sound → (f p).Sound) : TableSound own (updatePeer peers n f) := by
  refine h.map _ (fun p => ?_) (fun p hp => ?_)
  · split
    · exact hstation p
    · rfl
  · split
    · exact hsound p hp
    · exact hp

end TableSound

/-! ### The table in a configured part -/

/-- The filter holds the own number, and the table is sound for it (R93, R109). -/
structure State.Tabled (s : State) (cfg : Configuration) : Prop where
  own : s.filter.station = some cfg.station
  table : TableSound cfg.station s.peers

section
variable {s t : State} {cfg : Configuration}

/-- In a configured part, what the invariant says of the table. -/
theorem State.peersSound_iff (hc : s.port.config = some cfg) (hcfg : configurationInRange cfg = true)
    (hown : s.filter.station = some cfg.station) : s.PeersSound ↔ s.Tabled cfg := by
  have hstation := (configurationInRange_bounds cfg hcfg).1
  have hentries : (∀ p ∈ s.peers, p.Sound ∧ some p.station ≠ s.filter.station) ↔
      ∀ p ∈ s.peers, p.Sound ∧ p.station ≠ cfg.station := by simp only [hown, ne_eq, Option.some.injEq]
  constructor
  · rintro ⟨hascending, hall, -, -⟩
    exact ⟨hown, hascending, hentries.mp hall⟩
  · rintro ⟨-, htable⟩
    exact ⟨htable.ascending, hentries.mpr htable.entries, htable.length_le hstation, by simp [hc]⟩

theorem State.peersSound_of_empty (h : s.peers = []) : s.PeersSound := by simp [State.PeersSound, h]

theorem State.Tabled.congr (h : s.Tabled cfg) (hfilter : t.filter.station = s.filter.station)
    (hpeers : t.peers = s.peers) : t.Tabled cfg :=
  ⟨hfilter.trans h.own, hpeers ▸ h.table⟩

/-- A change of the table that keeps it sound. -/
theorem State.Tabled.redraw (h : s.Tabled cfg) (hfilter : t.filter.station = s.filter.station)
    (htable : TableSound cfg.station t.peers) : t.Tabled cfg :=
  ⟨hfilter.trans h.own, htable⟩

/-! ### Frames (R102 to R118) -/

theorem State.Tabled.setLine (h : s.Tabled cfg) (l : ShareLine) : (s.setLine l).Tabled cfg := h.congr rfl rfl

theorem State.Tabled.count (h : s.Tabled cfg) (k : EventKind) : (s.count k).Tabled cfg := h.congr rfl rfl

theorem State.Tabled.acceptLeave (h : s.Tabled cfg) (n : Nat) : (s.acceptLeave n).Tabled cfg :=
  h.redraw rfl (h.table.remove n)

theorem State.Tabled.acceptFields (h : s.Tabled cfg) {f : Frame} (hf : f.inRange = true) (missed : Nat → Nat)
    (hmissed : ∀ m ≤ 255, missed m ≤ 255) : (s.acceptFields f missed).Tabled cfg := by
  obtain ⟨-, hbody⟩ := Bool.and_eq_true _ _ ▸ hf
  exact h.redraw rfl (h.table.update _ _ (fun p => takeBody_station p f.body) fun p hp =>
    (hp.takeBody hbody).refresh _ (hmissed _ hp.missed_le))

theorem State.Tabled.acceptNew (h : s.Tabled cfg) {f : Frame} (hf : f.inRange = true)
    (hother : f.station ≠ cfg.station) (hnew : findPeer s.peers f.station = none) : (s.acceptNew f).Tabled cfg := by
  simp only [Frame.inRange, Bool.and_eq_true, decide_eq_true_eq] at hf
  obtain ⟨⟨hstation, -⟩, hbody⟩ := hf
  have hjoined (hleave : f.body ≠ .leave) :
      TableSound cfg.station (insertPeer ((Peer.created f.station f.sequence).takeBody f.body) s.peers) := by
    refine h.table.insert (Peer.created_takeBody_sound (by omega) hbody hleave) ?_ ?_ <;> rw [takeBody_station]
    · exact hother
    · exact (findPeer_none _ _).mp hnew
  unfold State.acceptNew
  split
  case h_1 => exact h
  case h_2 hshare => exact h.redraw rfl (hjoined (by simp [hshare]))
  case h_3 halert => exact h.redraw rfl (hjoined (by simp [halert]))

theorem State.Tabled.acceptFrame (h : s.Tabled cfg) {f : Frame} (hf : f.inRange = true)
    (hother : f.station ≠ cfg.station) : (s.acceptFrame f).Tabled cfg := by
  have hkept : (s.acceptFields f id).Tabled cfg := h.acceptFields hf _ fun _ hm => hm
  unfold State.acceptFrame
  split
  case h_1 hnew => exact h.acceptNew hf hother hnew
  case h_2 p _ =>
    split
    · unfold State.acceptFlagged
      split
      · exact h.acceptLeave _
      all_goals exact (h.acceptFields hf _ fun _ _ => Nat.zero_le _).count _
    · unfold State.acceptUnflagged
      split
      · exact h.acceptLeave _
      all_goals
        split
        · exact hkept
        · split
          · exact (h.acceptFields hf _ fun _ _ => Nat.min_le_left _ _).count _
          · exact hkept.count _

/-- The filter hands over frames of other stations alone (R104, R106). -/
theorem State.Tabled.passFrame (h : s.Tabled cfg) {f : Frame} (hf : f.inRange = true) :
    (s.passFrame cfg f).Tabled cfg := by
  unfold State.passFrame
  split
  case isTrue => exact h.congr (by simp) (by simp)
  case isFalse hown =>
    have hother : f.station ≠ cfg.station := fun heq => hown (by rw [h.own, heq])
    have hcounted : (s.setFilter (s.filter.countVerdict (s.verdict f))).Tabled cfg :=
      h.congr (by cases s.verdict f <;> rfl) rfl
    split
    · exact h.congr rfl rfl
    · unfold State.handOver
      dsimp only
      split
      · split
        · exact (hcounted.acceptFrame hf hother).congr (by simp) (by simp)
        · exact hcounted.acceptFrame hf hother
      all_goals exact hcounted

theorem State.Tabled.filterFrame (h : s.Tabled cfg) (bytes : List Byte) (malformed : Bool) :
    (s.filterFrame cfg bytes malformed).Tabled cfg := by
  unfold State.filterFrame
  split
  case h_1 => exact h.congr rfl rfl
  case h_2 f hframe => exact h.passFrame (frameOf_inRange (Option.ite_none_left_eq_some.mp hframe).2)

/-! ### Characters on the line (R80, R88) -/

theorem State.Tabled.receiveCharacter (h : s.Tabled cfg) (x : Character) : (s.receiveCharacter cfg x).Tabled cfg := by
  unfold State.receiveCharacter
  dsimp only
  split
  · exact (h.setLine _).filterFrame _ _
  · exact h.setLine _

theorem State.Tabled.receiveCharacters (xs : List Character) :
    ∀ {s : State}, s.Tabled cfg → (s.receiveCharacters cfg xs).Tabled cfg := by
  induction xs with
  | nil => exact id
  | cons x rest ih => exact fun h => ih (h.receiveCharacter x)

theorem State.Tabled.abandonFrame (h : s.Tabled cfg) (a : Assembly) : (s.abandonFrame cfg a).Tabled cfg :=
  (h.setLine _).filterFrame _ _

theorem State.Tabled.collide (h : s.Tabled cfg) (xs : List Character) : (s.collide cfg xs).Tabled cfg := by
  unfold State.collide
  dsimp only
  split <;> exact .receiveCharacters xs (h.congr (by simp) (by simp))

/-! ### Aging, FORGET PEER and the passing of time (R119 to R121, R128) -/

theorem State.Tabled.agePeer (h : s.Tabled cfg) (n : Nat) (status : PeerStatus) (k : EventKind) :
    (s.agePeer n status k).Tabled cfg :=
  h.redraw rfl (h.table.update n _ (fun _ => rfl) fun _ hp => hp)

theorem State.Tabled.takeForgetPeer (h : s.Tabled cfg) (n : Nat) : (s.takeForgetPeer cfg n).Tabled cfg := by
  unfold State.takeForgetPeer
  split
  · exact h.congr rfl rfl
  · split
    · exact h.congr rfl rfl
    · split
      · exact h.congr rfl rfl
      · exact h.congr rfl rfl
      · exact (h.acceptLeave n).congr rfl rfl

/-! ### Commands -/

/-- The table is left alone, or the part is configured and a sound table stays sound. -/
def TableFollows (s t : State) : Prop :=
  t.peers = s.peers ∨ ∃ cfg, s.port.config = some cfg ∧ (s.Tabled cfg → t.Tabled cfg)

theorem TableFollows.refl : TableFollows s s := .inl rfl

theorem TableFollows.same (h : t.peers = s.peers) : TableFollows s t := .inl h

theorem TableFollows.redraws (hc : s.port.config = some cfg) (h : s.Tabled cfg → t.Tabled cfg) : TableFollows s t :=
  .inr ⟨cfg, hc, h⟩

theorem TableFollows.ite {p : Prop} [Decidable p] {u : State} (ht : TableFollows s t) (hu : TableFollows s u) :
    TableFollows s (if p then t else u) := by
  split
  · exact ht
  · exact hu

theorem TableFollows.configured (f : Configuration → State)
    (hf : ∀ cfg, s.port.config = some cfg → TableFollows s (f cfg)) : TableFollows s (s.configured f) := by
  unfold State.configured
  split
  · exact .refl
  · exact hf _ ‹_›

theorem TableFollows.takeConfigured (f : Configuration → State)
    (hf : ∀ cfg, s.port.config = some cfg → TableFollows s (f cfg)) : TableFollows s (s.takeConfigured f) := by
  unfold State.takeConfigured
  split
  · exact .same rfl
  · exact hf _ ‹_›

/-- A command that needs the configuration and acts when its event has come about. -/
theorem TableFollows.whenDue (due : Configuration → Bool) (act : Configuration → State)
    (hact : ∀ cfg, s.port.config = some cfg → TableFollows s (act cfg)) :
    TableFollows s (s.configured fun cfg => if due cfg then act cfg else s) :=
  .configured _ fun cfg hc => .ite (hact cfg hc) .refl

theorem TableFollows.elapse (us : Nat) : TableFollows s (s.elapse us) := by
  unfold State.elapse State.elapseConfigured State.configured
  split
  · exact .same rfl
  · rename_i hc
    exact .redraws hc fun h => h.redraw rfl (h.table.map _ (fun _ => rfl) fun _ hp => hp.elapse us)

theorem State.takeLoadConfig_peers (s : State) (p : List Byte) (plant : PlantInputs) :
    (s.takeLoadConfig p plant).peers = s.peers := by
  unfold State.takeLoadConfig
  (repeat' split) <;> rfl

theorem State.takeSample_peers (s : State) (n : Fin 4) (level : Bool) : (s.takeSample n level).peers = s.peers := by
  rcases s.takeSample_cases n level with heq | ⟨cfg, -, -, heq⟩ <;> rw [heq] <;> simp

end

/-- Frames, aging and FORGET PEER alone change the table, and a power-on reset empties it. -/
theorem exec_tableFollows (c : Instr) (s t : State) (hexec : exec c s = .next t) (hreset : c ≠ .powerOnReset) :
    TableFollows s t := by
  cases c <;> obtain rfl := Host.Outcome.next.inj hexec
  case powerOnReset => exact absurd rfl hreset
  case frameReceived xs =>
    exact .whenDue (fun _ => s.line.receiving) _ fun _ hc => .redraws hc fun h => .receiveCharacters xs h
  case frameAbandoned =>
    refine .configured _ fun _ hc => ?_
    split
    · exact .refl
    · exact .ite (.redraws hc fun h => h.abandonFrame _) .refl
  case collision xs =>
    refine .configured _ fun _ hc => ?_
    split
    · exact .refl
    · exact .ite (.redraws hc fun h => h.collide xs) .refl
  case peerSilent n => exact .whenDue (s.silentDue · n) _ fun _ hc => .redraws hc fun h => h.agePeer _ _ _
  case peerLost n => exact .whenDue (s.lostDue · n) _ fun _ hc => .redraws hc fun h => h.agePeer _ _ _
  case forgetPeer =>
    split
    · exact .takeConfigured _ fun _ hc => .redraws hc fun h => h.takeForgetPeer _
    · exact .refl
  case loadConfig plant =>
    split
    · exact .same (s.takeLoadConfig_peers _ plant)
    · exact .refl
  case transferEnd =>
    split
    · exact .refl
    · exact .same (by simp)
  case setDemand | readPeer | ackEvents =>
    split
    · exact .takeConfigured _ fun _ _ => .same (by simp)
    · exact .refl
  case start | stop | standby | clearFault | readEvents | readFault =>
    exact .ite (.takeConfigured _ fun _ _ => .same (by simp)) .refl
  case lossOfSync => exact .whenDue (fun _ => s.lossDue) _ fun _ _ => .same (by simp)
  case sectorBoundary => exact .whenDue (fun _ => s.boundaryDue) _ fun _ _ => .same (by simp)
  case freeRunningBoundary => exact .whenDue (fun _ => s.freeBoundaryDue) _ fun _ _ => .same (by simp)
  case sample => exact .whenDue (fun _ => s.sampleDue) _ fun _ _ => .same rfl
  case recoveryConfirmTimerExpiry => exact .whenDue s.confirmDue _ fun _ _ => .same (by simp)
  case frequencyTimerExpiry => exact .whenDue s.frequencyTimerDue _ fun _ _ => .same (by simp)
  case blockedTimerExpiry => exact .whenDue s.blockedTimerDue _ fun _ _ => .same (by simp)
  case lowLoadTimerExpiry => exact .whenDue s.lowLoadDue _ fun _ _ => .same (by simp)
  case shareUpdate => exact .whenDue (fun _ => s.shareDue) _ fun _ _ => .same (by simp)
  case firing => exact .whenDue (fun _ => s.firingDue) _ fun _ _ => .same (by simp)
  case accessSlot => exact .configured _ fun _ _ => .ite (.same rfl) .refl
  case capture => exact .configured _ fun _ _ => .same (by simp)
  case protectionEdge n level => exact .ite .refl (.same (s.takeSample_peers n level))
  case srst => exact .same (by simp)
  case srstRelease => exact .same rfl
  case alertExpiry => exact .ite (.same (by simp)) .refl
  case transferStart | readStatus | pulseEnd | seekingEnd | lineBusy | interframeGapEnd | frameCompleted =>
    exact .ite (.same rfl) .refl

/-- Every step but a power-on reset lets the table follow. -/
theorem step_tableFollows (s t : State) (hstep : step s = .next t) (hreset : s.pending.head? ≠ some .powerOnReset) :
    TableFollows s t := by
  unfold step at hstep
  split at hstep
  case h_1 =>
    obtain rfl := Host.Outcome.next.inj hstep
    exact .ite .refl (.elapse 1)
  case h_2 c rest hpending =>
    rw [hpending] at hreset
    rcases exec_tableFollows c _ t hstep (fun heq => hreset (congrArg some heq)) with hsame | ⟨cfg, hc, htabled⟩
    · exact .same hsame
    · exact .redraws hc fun h => htabled (h.congr rfl rfl)

/-- A power-on reset leaves an empty table (R110). -/
theorem step_powerOnReset_peers (s t : State) (hstep : step s = .next t)
    (hreset : s.pending.head? = some .powerOnReset) : t.peers = [] := by
  obtain ⟨rest, hpending⟩ := List.head?_eq_some_iff.mp hreset
  unfold step at hstep
  rw [hpending] at hstep
  obtain rfl := Host.Outcome.next.inj hstep
  rfl

/-- Settles O54: a part without a configuration has no entries, and in a configured one each command keeps the table
sound for the own number, which the configuration holds. -/
theorem everyStepKeepsThePeerTableSound : Obligations.EveryStepKeepsThePeerTableSound := by
  intro s t hcfg hs hstep
  obtain ⟨⟨hranges', -, -, -, -, hown', -⟩, hstays⟩ := everyStepKeepsTheConfiguration s t hcfg hstep
  obtain ⟨hranges, -, -, -, -, hown, -⟩ := hcfg
  by_cases hreset : s.pending.head? = some .powerOnReset
  · exact State.peersSound_of_empty (step_powerOnReset_peers s t hstep hreset)
  have hfollows := step_tableFollows s t hstep hreset
  cases hc : s.port.config with
  | none =>
    obtain ⟨-, -, -, hempty⟩ := hs
    rcases hfollows with hsame | ⟨cfg, hc', -⟩
    · exact State.peersSound_of_empty (hsame.trans (hempty hc))
    · simp [hc] at hc'
  | some cfg =>
    have hc' := hstays cfg hc hreset
    rw [hc, Option.map_some] at hown
    rw [hc', Option.map_some] at hown'
    have htabled := (State.peersSound_iff hc (hranges cfg hc) hown).mp hs
    refine (State.peersSound_iff hc' (hranges' cfg hc') hown').mpr ?_
    rcases hfollows with hsame | ⟨cfg', hc'', hkeeps⟩
    · exact htabled.congr (hown'.trans hown.symm) hsame
    · obtain rfl := Option.some.inj (hc.symm.trans hc'')
      exact hkeeps htabled

end Sys2Proof.Machine
end

section
/-! SUPPORT. A frame of another station that reaches the Peer Table: where a new entry goes, what an accepted frame does
by its flag and its distance, and the counter of its verdict (R106, R111 to R118); and with it O43 and O44. -/

namespace Sys2Proof.Machine

/-! ### Entries of the table (R109) -/

/-- A new entry goes between the lower numbers and the higher ones. -/
theorem insertPeer_split (p : Peer) (peers : List Peer) (hascending : peers.Pairwise fun a b => a.station < b.station)
    (hnew : ∀ q ∈ peers, q.station ≠ p.station) :
    ∃ before after, peers = before ++ after ∧ (∀ q ∈ before, q.station < p.station) ∧
      (∀ q ∈ after, p.station < q.station) ∧ insertPeer p peers = before ++ p :: after := by
  induction peers with
  | nil => exact ⟨[], [], rfl, by simp, by simp, rfl⟩
  | cons q rest ih =>
    obtain ⟨hq, hrest⟩ := List.pairwise_cons.mp hascending
    obtain ⟨hne, hnewRest⟩ := List.forall_mem_cons.mp hnew
    unfold insertPeer
    split
    case isTrue hlt =>
      exact ⟨[], q :: rest, rfl, by simp, List.forall_mem_cons.mpr ⟨hlt, fun r hr => hlt.trans (hq r hr)⟩, rfl⟩
    case isFalse hge =>
      obtain ⟨before, after, rfl, hbefore, hafter, hinserted⟩ := ih hrest hnewRest
      refine ⟨q :: before, after, rfl, List.forall_mem_cons.mpr ⟨by omega, hbefore⟩, hafter, ?_⟩
      rw [hinserted, List.cons_append]

/-- The entry of a number is the only one, so changing it puts the changed entry in its place. -/
theorem updatePeer_eq_withEntry {peers : List Peer} {n : Nat} {p : Peer} (f : Peer → Peer)
    (hascending : peers.Pairwise fun a b => a.station < b.station) (hp : findPeer peers n = some p) :
    updatePeer peers n f = withEntry peers n (f p) := by
  obtain ⟨hstation, hmem⟩ := findPeer_some peers n p hp
  refine List.map_congr_left fun q hq => ?_
  split
  case isFalse => rfl
  case isTrue hn =>
    have hnodup : (peers.map Peer.station).Nodup := (List.pairwise_map.mpr hascending).imp Nat.ne_of_lt
    rw [List.inj_on_of_nodup_map hnodup hq hmem (hn.trans hstation.symm)]

/-! ### The stages up to the table (R102 to R106, R111) -/

section
variable {s : State} {cfg : Configuration} {f : Frame}

/-- A frame of another station of the own group is handed over (R104 to R106). -/
theorem State.passFrame_handsOver (hown : s.filter.station ≠ some f.station)
    (hgroup : s.filter.group = some f.group) : s.passFrame cfg f = s.handOver cfg f := by
  unfold State.passFrame
  rw [if_neg hown, if_neg (not_not_intro hgroup)]

/-- An accepted frame that asks for no early update is counted and changes the table (R106, R111). -/
theorem State.handOver_of_accepted (hv : s.verdict f = .accepted) (he : f.body.asksEarly = false) :
    s.handOver cfg f = (s.setFilter (s.filter.countVerdict .accepted)).acceptFrame f := by
  unfold State.handOver
  simp [hv, he]

/-- A frame that is not accepted is counted alone (R106, R111). -/
theorem State.handOver_of_refused (hv : s.verdict f ≠ .accepted) :
    s.handOver cfg f = s.setFilter (s.filter.countVerdict (s.verdict f)) := by
  unfold State.handOver
  cases hverdict : s.verdict f
  · exact absurd hverdict hv
  all_goals rfl

theorem State.verdict_of_new (hp : findPeer s.peers f.station = none) : s.verdict f = .accepted := by
  simp [State.verdict, hp]

theorem State.verdict_of_flagged (hf : f.first = true) : s.verdict f = .accepted := by
  unfold State.verdict
  split
  · rfl
  · rw [if_pos hf]

theorem State.verdict_of_unflagged {p : Peer} (hp : findPeer s.peers f.station = some p) (hf : f.first = false) :
    s.verdict f = distanceVerdict (sequenceDistance f.sequence p.lastSequence) p.status := by
  simp [State.verdict, hp, hf]

/-- A frame ahead by 1 to 127 is accepted, and one further ahead from a station that is not FRESH (R114). -/
theorem distanceVerdict_accepted {d : Nat} {status : PeerStatus}
    (h : (1 ≤ d ∧ d ≤ 127) ∨ (128 ≤ d ∧ status ≠ .fresh)) : distanceVerdict d status = .accepted := by
  unfold distanceVerdict
  rw [if_neg (by omega)]
  split
  · rfl
  · rw [if_neg (h.resolve_left (by omega)).2]

theorem distanceVerdict_duplicate {d : Nat} (status : PeerStatus) (h : d = 0) :
    distanceVerdict d status = .duplicate := by
  rw [distanceVerdict, if_pos h]

theorem distanceVerdict_stale {d : Nat} {status : PeerStatus} (hfar : 128 ≤ d) (hfresh : status = .fresh) :
    distanceVerdict d status = .stale := by
  rw [distanceVerdict, if_neg (by omega), if_neg (by omega), if_pos hfresh]

/-! ### What an accepted frame does (R112 to R118) -/

theorem State.acceptFrame_of_new (hp : findPeer s.peers f.station = none) : s.acceptFrame f = s.acceptNew f := by
  simp [State.acceptFrame, hp]

theorem State.acceptFrame_of_flagged {p : Peer} (hp : findPeer s.peers f.station = some p) (hf : f.first = true) :
    s.acceptFrame f = s.acceptFlagged f := by
  simp [State.acceptFrame, hp, hf]

theorem State.acceptFrame_of_unflagged {p : Peer} (hp : findPeer s.peers f.station = some p) (hf : f.first = false) :
    s.acceptFrame f = s.acceptUnflagged f (sequenceDistance f.sequence p.lastSequence) := by
  simp [State.acceptFrame, hp, hf]

theorem State.acceptNew_of_leave (hb : f.body = .leave) : s.acceptNew f = s := by simp [State.acceptNew, hb]

/-- A LEAVE removes the entry, with the flag or without it (R113, R114, R118). -/
theorem State.acceptFrame_of_leave {p : Peer} (hp : findPeer s.peers f.station = some p) (hb : f.body = .leave) :
    s.acceptFrame f = s.acceptLeave f.station := by
  simp [State.acceptFrame, hp, State.acceptFlagged, State.acceptUnflagged, hb]

theorem State.acceptNew_of_fields (hb : f.body ≠ .leave) :
    s.acceptNew f =
      (s.setPeers (insertPeer ((Peer.created f.station f.sequence).takeBody f.body) s.peers)).count .peerJoined := by
  unfold State.acceptNew
  cases hbody : f.body with
  | leave => exact absurd hbody hb
  | share _ | alert _ => rfl

theorem State.acceptFlagged_of_fields (hb : f.body ≠ .leave) :
    s.acceptFlagged f = (s.acceptFields f fun _ => 0).count .peerRestart := by
  unfold State.acceptFlagged
  cases hbody : f.body with
  | leave => exact absurd hbody hb
  | share _ | alert _ => rfl

theorem State.acceptUnflagged_of_fields (hb : f.body ≠ .leave) (d : Nat) :
    s.acceptUnflagged f d =
      if d = 1 then s.acceptFields f id
      else if d ≤ 127 then (s.acceptFields f fun m => min 255 (m + (d - 1))).count .seqGap
      else (s.acceptFields f id).count .peerRestart := by
  unfold State.acceptUnflagged
  cases hbody : f.body with
  | leave => exact absurd hbody hb
  | share _ | alert _ => rfl

theorem State.acceptUnflagged_next (hb : f.body ≠ .leave) {d : Nat} (hd : d = 1) :
    s.acceptUnflagged f d = s.acceptFields f id := by
  rw [State.acceptUnflagged_of_fields hb, if_pos hd]

theorem State.acceptUnflagged_gap (hb : f.body ≠ .leave) {d : Nat} (hlow : 2 ≤ d) (hhigh : d ≤ 127) :
    s.acceptUnflagged f d = (s.acceptFields f fun m => min 255 (m + (d - 1))).count .seqGap := by
  rw [State.acceptUnflagged_of_fields hb, if_neg (by omega), if_pos hhigh]

theorem State.acceptUnflagged_far (hb : f.body ≠ .leave) {d : Nat} (hfar : 128 ≤ d) :
    s.acceptUnflagged f d = (s.acceptFields f id).count .peerRestart := by
  rw [State.acceptUnflagged_of_fields hb, if_neg (by omega), if_neg (by omega)]

/-- A SHARE, or an ALERT that asks for no early update, makes of the entry `p` the entry `entry m`, where `m` is the
missed count (R115 to R117). -/
def CarriesInto (f : Frame) (p : Peer) (entry : Nat → Peer) : Prop :=
  (∃ b, f.body = .share b ∧ entry = sharedPeer p f b) ∨
  (∃ b, f.body = .alert b ∧ (b.kind = .recovered ∨ b.kind = .standby) ∧ entry = alertedPeer p f b)

theorem CarriesInto.not_leave {p : Peer} {entry : Nat → Peer} (h : CarriesInto f p entry) : f.body ≠ .leave := by
  rcases h with ⟨b, hb, -⟩ | ⟨b, hb, -, -⟩ <;> simp [hb]

theorem CarriesInto.asksNothing {p : Peer} {entry : Nat → Peer} (h : CarriesInto f p entry) :
    f.body.asksEarly = false := by
  rcases h with ⟨b, hb, -⟩ | ⟨b, hb, hkind | hkind, -⟩ <;> simp [Body.asksEarly, *]

theorem CarriesInto.entry_eq {p : Peer} {entry : Nat → Peer} (h : CarriesInto f p entry) (missed : Nat) :
    { (p.takeBody f.body).refresh f.sequence with missed := missed } = entry missed := by
  rcases h with ⟨b, hb, rfl⟩ | ⟨b, hb, -, rfl⟩ <;> rw [hb] <;> rfl

/-- A new entry is that of a station not heard of before, with the fields of its frame (R112). -/
theorem CarriesInto.created_eq {entry : Nat → Peer} (h : CarriesInto f (unheardPeer f.station) entry) :
    (Peer.created f.station f.sequence).takeBody f.body = entry 0 := by
  rcases h with ⟨b, hb, rfl⟩ | ⟨b, hb, -, rfl⟩ <;> rw [hb] <;> rfl

/-- The fields of an accepted frame in the table of a part that has counted it. -/
theorem acceptedWith_acceptFields {p : Peer} {entry : Nat → Peer} (hcarries : CarriesInto f p entry)
    (hascending : s.peers.Pairwise fun a b => a.station < b.station) (hp : findPeer s.peers f.station = some p)
    (missed : Nat → Nat) :
    (acceptedWith s s.peers []).acceptFields f missed =
      acceptedWith s (withEntry s.peers f.station (entry (missed p.missed))) [] := by
  rw [← hcarries.entry_eq, ← updatePeer_eq_withEntry (fun q =>
    { (q.takeBody f.body).refresh f.sequence with missed := missed q.missed }) hascending hp]
  rfl

/-! ### FRAME_RECEIVED -/

/-- A frame of another station of the own group, received whole by a listening part. -/
structure Arrives (s : State) (cfg : Configuration) (f : Frame) : Prop where
  config : s.port.config = some cfg
  listens : listening s
  intact : f.inRange = true
  own : s.filter.station = some cfg.station
  group : s.filter.group = some cfg.group
  other : f.station ≠ cfg.station
  sameGroup : f.group = cfg.group

namespace Arrives

theorem exec_handsOver (h : Arrives s cfg f) :
    exec (.frameReceived (onTheLine f)) s = .next (({ s with line := heardLine s.line } : State).handOver cfg f) := by
  rw [exec_frameReceived_frame f h.config h.listens h.intact, State.passFrame_handsOver]
  · show s.filter.station ≠ some f.station
    rw [h.own]
    simpa using h.other.symm
  · show s.filter.group = some f.group
    rw [h.group, h.sameGroup]

theorem exec_accepted (h : Arrives s cfg f) (hv : s.verdict f = .accepted) (he : f.body.asksEarly = false) :
    exec (.frameReceived (onTheLine f)) s = .next ((acceptedWith s s.peers []).acceptFrame f) := by
  rw [h.exec_handsOver, State.handOver_of_accepted (by exact hv) he]
  rfl

theorem exec_refused (h : Arrives s cfg f) (hv : s.verdict f ≠ .accepted) :
    exec (.frameReceived (onTheLine f)) s =
      .next { s with line := heardLine s.line, filter := s.filter.countVerdict (s.verdict f) } := by
  rw [h.exec_handsOver, State.handOver_of_refused (by exact hv)]
  rfl

end Arrives

end

/-- Settles O43: a new number's frame is accepted in every case, and a SHARE or an ALERT puts its entry in order. -/
theorem frameFromANewNumberCreatesItsEntry : Obligations.FrameFromANewNumberCreatesItsEntry := by
  intro s cfg f hc hl hrange hown hgroup hother hsame hnew hascending
  have h : Arrives s cfg f := ⟨hc, hl, hrange, hown, hgroup, hother, hsame⟩
  have hp : findPeer s.peers f.station = none := (findPeer_none _ _).mpr hnew
  have hv : s.verdict f = .accepted := State.verdict_of_new hp
  refine ⟨fun entry hentry => ?_, fun hleave => ?_⟩
  · obtain ⟨entryOf, hcarries, rfl⟩ : ∃ e, CarriesInto f (unheardPeer f.station) e ∧ entry = e 0 := by
      rcases hentry with ⟨b, hb, rfl⟩ | ⟨b, hb, hkind, rfl⟩
      · exact ⟨_, .inl ⟨b, hb, rfl⟩, rfl⟩
      · exact ⟨_, .inr ⟨b, hb, hkind, rfl⟩, rfl⟩
    have hstation : (entryOf 0).station = f.station := by rw [← hcarries.created_eq, takeBody_station]; rfl
    obtain ⟨before, after, hsplit, hbefore, hafter, hinserted⟩ :=
      insertPeer_split (entryOf 0) s.peers hascending (by rwa [hstation])
    rw [hstation] at hbefore hafter
    refine ⟨before, after, hsplit, hbefore, hafter, ?_⟩
    rw [h.exec_accepted hv hcarries.asksNothing, State.acceptFrame_of_new (by exact hp),
      State.acceptNew_of_fields hcarries.not_leave, hcarries.created_eq, ← hinserted]
    rfl
  · rw [h.exec_accepted hv (by rw [hleave]; rfl), State.acceptFrame_of_new (by exact hp),
      State.acceptNew_of_leave hleave]

/-- Settles O44: flag and distance give the verdict, and the accepted frame changes the one entry of its number. -/
theorem frameFromAKnownPeerIsJudgedByDistance : Obligations.FrameFromAKnownPeerIsJudgedByDistance := by
  intro s cfg f p d entry hc hl hrange hown hgroup hother hsame hp hascending hd
  have h : Arrives s cfg f := ⟨hc, hl, hrange, hown, hgroup, hother, hsame⟩
  replace hp : findPeer s.peers f.station = some p := hp
  replace hd : sequenceDistance f.sequence p.lastSequence = d := hd.symm
  have hunflagged (hf : f.first = false) : s.verdict f = distanceVerdict d p.status :=
    hd ▸ State.verdict_of_unflagged hp hf
  refine ⟨fun hcarries => ?_, fun hf hrepeated => ?_, fun hf hfar hfresh => ?_, fun hleave haccepted => ?_⟩
  · replace hcarries : CarriesInto f p entry := hcarries
    have hfields := acceptedWith_acceptFields hcarries hascending hp
    have hexec (hf : f.first = false) (haccepted : (1 ≤ d ∧ d ≤ 127) ∨ (128 ≤ d ∧ p.status ≠ .fresh)) :
        exec (.frameReceived (onTheLine f)) s = .next ((acceptedWith s s.peers []).acceptUnflagged f d) := by
      rw [h.exec_accepted ((hunflagged hf).trans (distanceVerdict_accepted haccepted)) hcarries.asksNothing,
        State.acceptFrame_of_unflagged (by exact hp) hf, hd]
    refine ⟨fun hf => ?_, fun hf hnext => ?_, fun hf hlow hhigh => ?_, fun hf hfar hstatus => ?_⟩
    · rw [h.exec_accepted (State.verdict_of_flagged hf) hcarries.asksNothing,
        State.acceptFrame_of_flagged (by exact hp) hf, State.acceptFlagged_of_fields hcarries.not_leave, hfields]
      rfl
    · rw [hexec hf (.inl ⟨by omega, by omega⟩), State.acceptUnflagged_next hcarries.not_leave hnext, hfields]
      rfl
    · rw [hexec hf (.inl ⟨by omega, hhigh⟩), State.acceptUnflagged_gap hcarries.not_leave hlow hhigh, hfields]
      rfl
    · have hold : p.status ≠ .fresh := by rcases hstatus with hstatus | hstatus <;> simp [hstatus]
      rw [hexec hf (.inr ⟨hfar, hold⟩), State.acceptUnflagged_far hcarries.not_leave hfar, hfields]
      rfl
  · have hv : s.verdict f = .duplicate := (hunflagged hf).trans (distanceVerdict_duplicate _ hrepeated)
    rw [h.exec_refused (by simp [hv]), hv]
    rfl
  · have hv : s.verdict f = .stale := (hunflagged hf).trans (distanceVerdict_stale hfar hfresh)
    rw [h.exec_refused (by simp [hv]), hv]
    rfl
  · have hv : s.verdict f = .accepted := by
      cases hf : f.first with
      | true => exact State.verdict_of_flagged hf
      | false => exact (hunflagged hf).trans (distanceVerdict_accepted (haccepted.resolve_left (by simp [hf])))
    rw [h.exec_accepted hv (by rw [hleave]; rfl), State.acceptFrame_of_leave (by exact hp) hleave]
    rfl

end Sys2Proof.Machine
end

section
/-! SUPPORT. READ PEER, FORGET PEER and the aging of an entry (R120, R121, R127, R128): O18, O20 and
O46. -/

namespace Sys2Proof.Machine

section
variable {s : State} {cfg : Configuration} {n : Nat} {p : Peer}

/-- In an ascending table the entry of a number is the one that is found. -/
theorem findPeer_of_mem {peers : List Peer} (hascending : peers.Pairwise fun a b => a.station < b.station)
    (hmem : p ∈ peers) (hstation : p.station = n) : findPeer peers n = some p := by
  obtain ⟨q, hq⟩ : ∃ q, findPeer peers n = some q := by
    rw [← Option.ne_none_iff_exists', Ne, findPeer_none]
    exact fun hnone => hnone p hmem hstation
  obtain ⟨hqstation, hqmem⟩ := findPeer_some peers n q hq
  have hnodup : (peers.map Peer.station).Nodup := (List.pairwise_map.mpr hascending).imp Nat.ne_of_lt
  rw [hq, List.inj_on_of_nodup_map hnodup hmem hqmem (hstation.trans hqstation.symm)]

/-! ### READ PEER (R127, R196) -/

theorem exec_readPeer_unconfigured (hr : s.port.request = some (.readPeer n)) (hc : s.port.config = none) :
    exec .readPeer s = .next (answered s .refusedUnconfigured []) := by
  simp [exec, execReadPeer, State.takeConfigured, hc, hr, State.plainAnswer_eq]

theorem exec_readPeer_of (hc : s.port.config = some cfg) (hr : s.port.request = some (.readPeer n)) :
    exec .readPeer s = .next (s.answer (s.readPeerResponse n)) := by
  simp [exec, execReadPeer, State.takeConfigured, hc, hr]

theorem State.readPeerResponse_of_range (h : 15 < n) : s.readPeerResponse n = ⟨.refusedRange, [1#8]⟩ := by
  rw [State.readPeerResponse, if_pos h]
  rfl

theorem State.readPeerResponse_of_absent (hn : n ≤ 15) (h : findPeer s.peers n = none) :
    s.readPeerResponse n = ⟨.absent, []⟩ := by
  rw [State.readPeerResponse, if_neg (by omega), h]
  rfl

theorem State.readPeerResponse_of_entry (hn : n ≤ 15) (h : findPeer s.peers n = some p) :
    s.readPeerResponse n = ⟨.done, p.report⟩ := by
  rw [State.readPeerResponse, if_neg (by omega), h]

theorem PeerStatus.number_lt (x : PeerStatus) : x.number < 256 := by cases x <;> decide

/-! ### FORGET PEER (R128) -/

theorem exec_forgetPeer_unconfigured (hr : s.port.request = some (.forgetPeer n)) (hc : s.port.config = none) :
    exec .forgetPeer s = .next (answered s .refusedUnconfigured []) := by
  simp [exec, execForgetPeer, State.takeConfigured, hc, hr, State.plainAnswer_eq]

theorem exec_forgetPeer_of (hc : s.port.config = some cfg) (hr : s.port.request = some (.forgetPeer n)) :
    exec .forgetPeer s = .next (s.takeForgetPeer cfg n) := by
  simp [exec, execForgetPeer, State.takeConfigured, hc, hr]

theorem State.takeForgetPeer_of_range (h : 15 < n ∨ n = cfg.station ∨ findPeer s.peers n = none) :
    s.takeForgetPeer cfg n = answered s .refusedRange [1#8] := by
  unfold State.takeForgetPeer
  split
  case isTrue => rfl
  case isFalse hnamed =>
    rw [show findPeer s.peers n = none by tauto]
    rfl

theorem State.takeForgetPeer_of_heard (hn : n ≤ 15) (hown : n ≠ cfg.station) (hp : findPeer s.peers n = some p)
    (hheard : p.status = .fresh ∨ p.status = .silent) : s.takeForgetPeer cfg n = answered s .refusedState [] := by
  rw [State.takeForgetPeer, if_neg (by omega), hp]
  rcases hheard with hstatus | hstatus <;> simp only [hstatus, State.plainAnswer_eq]

theorem State.takeForgetPeer_of_lost (hn : n ≤ 15) (hown : n ≠ cfg.station) (hp : findPeer s.peers n = some p)
    (hlost : p.status = .lost) :
    s.takeForgetPeer cfg n = { answered (counted s [.peerLeft]) .done [] with
      peers := s.peers.filter fun q => decide (q.station ≠ n) } := by
  rw [State.takeForgetPeer, if_neg (by omega), hp]
  simp only [hlost]
  rfl

/-! ### Aging (R120, R121) -/

/-- An entry takes its status in its place, and the event is counted. -/
theorem State.agePeer_eq (status : PeerStatus) (k : EventKind)
    (hascending : s.peers.Pairwise fun a b => a.station < b.station) (hp : findPeer s.peers n = some p) :
    s.agePeer n status k = { counted s [k] with peers := withEntry s.peers n { p with status := status } } := by
  unfold State.agePeer
  rw [updatePeer_eq_withEntry _ hascending hp]
  rfl

theorem exec_peerSilent_of (n : Fin 16) (hc : s.port.config = some cfg) (hp : findPeer s.peers n = some p) :
    exec (.peerSilent n) s = .next (if p.status = .fresh ∧ cfg.tSilent ≤ p.age
      then s.agePeer n .silent .peerSilent else s) := by
  simp [exec, execPeerSilent, State.configured, hc, State.silentDue, hp]

theorem exec_peerLost_of (n : Fin 16) (hc : s.port.config = some cfg) (hp : findPeer s.peers n = some p) :
    exec (.peerLost n) s = .next (if p.status = .silent ∧ cfg.tLost ≤ p.age
      then s.agePeer n .lost .peerLost else s) := by
  simp [exec, execPeerLost, State.configured, hc, State.lostDue, hp]

end

/-- Settles O18: the response is by range and by entry, and the fields of an entry are read back at their places. -/
theorem readPeerAnswersTheEntry : Obligations.ReadPeerAnswersTheEntry := by
  refine ⟨fun s n hr hc => exec_readPeer_unconfigured hr hc, fun s cfg n ⟨hc, _, hr⟩ => ?_⟩
  rw [exec_readPeer_of hc hr]
  refine ⟨fun hn => ?_, fun hn habsent => ?_, fun hn p hmem hstation hascending => ?_⟩
  · rw [State.readPeerResponse_of_range hn]
    rfl
  · rw [State.readPeerResponse_of_absent hn ((findPeer_none _ _).mpr habsent)]
    rfl
  · have hnumber : fieldAt p.report 0 1 = n :=
      (fieldAt_code rfl (by omega)).trans hstation
    have hstatus : fieldAt p.report 1 1 = p.status.number := fieldAt_code rfl p.status.number_lt
    rw [State.readPeerResponse_of_entry hn (findPeer_of_mem hascending hmem hstation)]
    exact ⟨p.report, rfl, rfl, hnumber, hstatus.trans (by cases p.status <;> rfl), fieldAt_ofNat rfl,
      fieldAt_be16 rfl, fieldAt_be16 rfl, fieldAt_be16 rfl, fieldAt_be16 rfl, fieldAt_be16 rfl, fieldAt_be16 rfl,
      fieldAt_be16 rfl, fieldAt_ofNat rfl, fieldAt_byte rfl, fieldAt_be16 rfl, fieldAt_ofNat rfl⟩

/-- Settles O20: FORGET PEER by range, by entry and by the entry's status. -/
theorem forgetPeerRemovesALostEntry : Obligations.ForgetPeerRemovesALostEntry := by
  refine fun s n hr => ⟨exec_forgetPeer_unconfigured hr, fun cfg hc => ?_⟩
  rw [exec_forgetPeer_of hc hr]
  refine ⟨fun hrange => ?_, fun hn hown p hp => ?_⟩
  · rw [← findPeer_none] at hrange
    rw [State.takeForgetPeer_of_range hrange]
  · refine ⟨fun hheard => ?_, fun hlost => ?_⟩
    · rw [State.takeForgetPeer_of_heard hn hown hp hheard]
    · rw [State.takeForgetPeer_of_lost hn hown hp hlost]

/-- Settles O46: each aging acts on the entry found, when its status and its age ask for it. -/
theorem agingMovesAnEntryOn : Obligations.AgingMovesAnEntryOn := by
  intro s cfg n p hc hp hascending
  rw [exec_peerSilent_of n hc hp, exec_peerLost_of n hc hp]
  refine ⟨fun hfresh hage => ?_, fun hsilent hage => ?_, fun hyoung => ?_, fun hyoung => ?_⟩
  · rw [if_pos ⟨hfresh, hage⟩, State.agePeer_eq _ _ hascending hp]
  · rw [if_pos ⟨hsilent, hage⟩, State.agePeer_eq _ _ hascending hp]
  · rw [if_neg fun ⟨hfresh, hage⟩ => hyoung.elim (absurd hfresh) (Nat.not_lt.mpr hage)]
  · rw [if_neg fun ⟨hsilent, hage⟩ => hyoung.elim (absurd hsilent) (Nat.not_lt.mpr hage)]

end Sys2Proof.Machine
end

section
/-! SUPPORT. Steps 1 to 9 of a share update in whatever state it is taken, and the whole update in the states that no
completion test leaves (R24, R86, R97, R123, R134 to R146): O34. -/

namespace Sys2Proof.Machine

/-! ### The figures of an update (R134, R135, R137 to R144) -/

theorem elapsedMs_eq (a : Allocator) : a.elapsedMs = elapsedAtUpdate a := by
  unfold Allocator.elapsedMs elapsedAtUpdate
  cases a.lastUpdate <;> rfl

theorem dcMarkerAfter_eq (marker dcLimit held : Bool) :
    dcMarkerAfter marker dcLimit held = (dcLimit && (marker || held)) := by
  unfold dcMarkerAfter
  cases dcLimit <;> rfl

/-- The allocator's figures after an update, in the words of the statements; cover and target stand by name (R136 to
R144). -/
theorem Allocator.update_eq (a : Allocator) (cfg : Configuration) (state : StationState) (origin : Option StandbyOrigin)
    (peers : List Peer) (now : Micros) {steps : Steps} (hsteps : a.steps = some steps) {own spare cover target : Nat}
    (hown : own = ownShortfall state origin (demandAtUpdate a) a.setpoint a.latestC)
    (hspare : spare = ownHeadroom cfg state (demandAtUpdate a) a.latestC)
    (hcover : cover = coverOf state spare (own + (shortfallsOf peers).sum) (spare + (headroomsOf peers).sum))
    (htarget : target = targetOf state (demandAtUpdate a) a.latestC cover) :
    a.update cfg state origin peers now =
      { a with
        demand := demandAtUpdate a
        pendingDemand := none
        shortfall := own
        headroom := spare
        shortfallSum := own + (shortfallsOf peers).sum
        headroomSum := spare + (headroomsOf peers).sum
        groupDelivered := (if state.firing then a.latestI else 0) + (deliveriesOf peers).sum
        cover := cover
        target := target
        setpoint := if state.firing then setpointMoved a (risingStep steps state) steps.down target else a.setpoint
        dcHoldMarker := a.latestDcLimit && (a.dcHoldMarker || riseHeld state a.latestDcLimit a.setpoint target)
        capabilityMarker := demandAboveCapability state (demandAtUpdate a) a.latestC
        lastUpdate := some (now, a.ms) } := by
  subst hown hspare hcover htarget
  unfold Allocator.update
  simp only [applyPending_eq, sumWith, shortfallCounted_eq, headroomCounted_eq, deliveredCounted_eq, hsteps,
    Option.getD_some, rampedSetpoint_eq, dcMarkerAfter_eq]

/-! ### Events and frame of an update (R86, R143 to R145) -/

theorem counted_append (s : State) (first rest : List EventKind) :
    counted (counted s first) rest = counted s (first ++ rest) := by
  simp [counted, List.foldl_append]

theorem State.countIf_eq (s : State) (came : Bool) (k : EventKind) :
    s.countIf came k = counted s (if came then [k] else []) := by
  cases came <;> rfl

/-- The SHARE frame that an update composes of the new figures of the allocator (R97, R145). -/
def State.shareOf (s : State) (cfg : Configuration) (updated : Allocator) : ShareBody where
  stateCode := stateNumber s.station.state
  sharePeriod := cfg.sharePeriod
  voltage := s.sampler.figures.voltage
  demand := updated.demand
  delivered := s.sampler.figures.current
  capability := s.sampler.figures.capability
  shortfall := updated.shortfall
  headroom := updated.headroom
  cover := updated.cover

theorem State.shareBody_eq (s : State) (cfg : Configuration) : s.shareBody cfg = s.shareOf cfg s.allocator := by
  rw [State.shareOf, ← stateCode_eq]
  rfl

/-- Steps 1 to 9 with the allocator's figures by name: the two limits and the replaced frame are counted, and the frame
carries the figures (R86, R143 to R145). -/
theorem State.allocate_eq (s : State) (cfg : Configuration) {updated : Allocator}
    (hupdated : updated = s.allocator.update cfg s.station.state s.station.standbyOrigin s.peers s.time) :
    s.allocate cfg = { s with
      allocator := updated
      events := (counted s
        ((if s.allocator.countsDcLimit updated s.station.state then [.dcVoltageLimit] else []) ++
        (if s.allocator.countsCapability updated then [.capabilityLimit] else []) ++
        (if s.line.shareSlot = none then [] else [.txDropped]))).events
      line := { s.line with shareSlot := some (s.shareOf cfg updated) } } := by
  have hslot : (if s.line.shareSlot.isSome = true then [EventKind.txDropped] else []) =
      if s.line.shareSlot = none then [] else [.txDropped] := by
    cases s.line.shareSlot <;> rfl
  unfold State.allocate State.placeShare
  simp only [← hupdated, State.countIf_eq, counted_append, State.shareBody_eq, ← hslot]
  rfl

/-! ### States that no completion test leaves (R24, R137, R146) -/

/-- The states in which updates run and whose tests at the end leave them (R146). -/
abbrev StationState.Settled (x : StationState) : Prop :=
  x = .syncing ∨ x = .run ∨ x = .ride ∨ x = .blocked ∨ x = .standby ∨ x = .tripped

theorem StationState.Settled.updates {x : StationState} (h : x.Settled) : x.updates = true := by
  rcases h with rfl | rfl | rfl | rfl | rfl | rfl <;> rfl

theorem StationState.Settled.firing_iff {x : StationState} (h : x.Settled) :
    x.firing = true ↔ x = .run ∨ x = .ride := by
  rcases h with rfl | rfl | rfl | rfl | rfl | rfl <;> decide

theorem StationState.Settled.risingStep_eq {x : StationState} (h : x.Settled) (steps : Steps) :
    risingStep steps x = steps.up :=
  if_neg (by rintro rfl; exact absurd h (by decide))

/-- In RUN the low-load timer follows the update, and nothing else does (R24, R146). -/
theorem State.endOfUpdate_settled {u : State} (cfg : Configuration) (elapsed : Nat) (hs : u.station.state.Settled) :
    u.endOfUpdate cfg elapsed = { u with
      station := if u.station.state = .run then
          { u.station with
            lowLoadMs := if u.allocator.groupDelivered < cfg.plantMinimum then u.station.lowLoadMs + elapsed else 0 }
        else u.station } := by
  unfold State.endOfUpdate
  rcases hs with hs | hs | hs | hs | hs | hs <;> rw [hs] <;> rfl

/-- DC_VOLTAGE_LIMIT is counted in RUN and RIDE alone of these states (R143). -/
theorem Allocator.countsDcLimit_of_settled (a updated : Allocator) {state : StationState} (hs : state.Settled) :
    (a.countsDcLimit updated state = true) = ((state = .run ∨ state = .ride) ∧ a.latestDcLimit = true ∧
      a.setpoint < updated.target ∧ a.dcHoldMarker = false) := by
  simp [Allocator.countsDcLimit, riseHeld, hs.firing_iff, and_assoc]

/-- CAPABILITY_LIMIT is counted when its marker rises (R144). -/
theorem Allocator.countsCapability_of (a updated : Allocator) {state : StationState} {demand : Nat}
    (h : updated.capabilityMarker = decide (state = .run ∧ a.latestC < demand)) :
    (a.countsCapability updated = true) = (state = .run ∧ a.latestC < demand ∧ a.capabilityMarker = false) := by
  simp [Allocator.countsCapability, h, and_assoc]

/-- The allocator's figures after an update in one of these states: RUN and RIDE alone move the setpoint (R136 to
R144). -/
theorem Allocator.update_of_settled (a : Allocator) (cfg : Configuration) {state : StationState}
    (origin : Option StandbyOrigin) (peers : List Peer) (now : Micros) {steps : Steps} (hs : state.Settled)
    (hsteps : a.steps = some steps) {own spare cover target : Nat}
    (hown : own = ownShortfall state origin (demandAtUpdate a) a.setpoint a.latestC)
    (hspare : spare = ownHeadroom cfg state (demandAtUpdate a) a.latestC)
    (hcover : cover = coverOf state spare (own + (shortfallsOf peers).sum) (spare + (headroomsOf peers).sum))
    (htarget : target = targetOf state (demandAtUpdate a) a.latestC cover) :
    a.update cfg state origin peers now =
      { a with
        demand := demandAtUpdate a
        pendingDemand := none
        shortfall := own
        headroom := spare
        shortfallSum := own + (shortfallsOf peers).sum
        headroomSum := spare + (headroomsOf peers).sum
        groupDelivered := (if state = .run ∨ state = .ride then a.latestI else 0) + (deliveriesOf peers).sum
        cover := cover
        target := target
        setpoint := if state = .run ∨ state = .ride then setpointMoved a steps.up steps.down target else a.setpoint
        dcHoldMarker := a.latestDcLimit && (a.dcHoldMarker ||
          decide ((state = .run ∨ state = .ride) ∧ a.setpoint < target))
        capabilityMarker := decide (state = .run ∧ a.latestC < demandAtUpdate a)
        lastUpdate := some (now, a.ms) } := by
  have hmarker : (a.latestDcLimit && (a.dcHoldMarker || riseHeld state a.latestDcLimit a.setpoint target)) =
      (a.latestDcLimit && (a.dcHoldMarker || decide ((state = .run ∨ state = .ride) ∧ a.setpoint < target))) := by
    cases a.latestDcLimit
    · rfl
    · simp [riseHeld, ← hs.firing_iff]
  rw [a.update_eq cfg state origin peers now hsteps hown hspare hcover htarget, hmarker, hs.risingStep_eq]
  simp only [hs.firing_iff, demandAboveCapability, Bool.decide_and]

/-- Steps 1 to 9 in one of these states, the events by what the statement asks of them (R86, R143 to R145). -/
theorem State.allocate_of_settled (u : State) (cfg : Configuration) (hs : u.station.state.Settled) {updated : Allocator}
    {demand : Nat} (hupdated : updated = u.allocator.update cfg u.station.state u.station.standbyOrigin u.peers u.time)
    (hmarker : updated.capabilityMarker = decide (u.station.state = .run ∧ u.allocator.latestC < demand)) :
    u.allocate cfg = { u with
      allocator := updated
      events := (counted u
        ((if (u.station.state = .run ∨ u.station.state = .ride) ∧ u.allocator.latestDcLimit = true ∧
            u.allocator.setpoint < updated.target ∧ u.allocator.dcHoldMarker = false
          then [.dcVoltageLimit] else []) ++
        (if u.station.state = .run ∧ u.allocator.latestC < demand ∧ u.allocator.capabilityMarker = false
          then [.capabilityLimit] else []) ++
        (if u.line.shareSlot = none then [] else [.txDropped]))).events
      line := { u.line with shareSlot := some (u.shareOf cfg updated) } } := by
  simp only [State.allocate_eq u cfg hupdated, Allocator.countsDcLimit_of_settled _ _ hs,
    Allocator.countsCapability_of _ _ hmarker]

/-! ### Cover and target (R140, R141) -/

theorem coverOf_eq_zero {state : StationState} {spare owed offered : Nat} (h : state ≠ .run ∨ spare = 0 ∨ owed = 0) :
    coverOf state spare owed offered = 0 := by
  unfold coverOf
  split
  case isTrue hrun => rw [if_pos (h.resolve_left (not_not_intro hrun))]
  case isFalse => rfl

/-- In RUN with own headroom and a shortfall, cover is all of that headroom, or its share of a shortfall below the sum
of the headrooms (R140). -/
theorem coverOf_run {spare owed offered : Nat} (hspare : spare ≠ 0) (howed : owed ≠ 0) :
    (offered ≤ owed → coverOf .run spare owed offered = spare) ∧
      (owed < offered → coverOf .run spare owed offered = owed * spare / offered) := by
  have hcover : coverOf .run spare owed offered = if offered ≤ owed then spare else owed * spare / offered := by
    simp [coverOf, hspare, howed]
  exact ⟨fun h => hcover.trans (if_pos h), fun h => hcover.trans (if_neg (by omega))⟩

theorem StationState.Settled.targetOf_eq_zero {x : StationState} (h : x.Settled) (hrun : x ≠ .run) (hride : x ≠ .ride)
    (demand capability cover : Nat) : targetOf x demand capability cover = 0 := by
  rcases h with rfl | h | h | rfl | rfl | rfl
  exacts [rfl, absurd h hrun, absurd h hride, rfl, rfl, rfl]

/-- Settles O34: the expiry runs `State.allocate_of_settled` on the figures of `Allocator.update_of_settled`, and no test at
the end leaves the state. -/
theorem shareUpdateSharesOutTheShortfall : Obligations.ShareUpdateSharesOutTheShortfall := by
  intro s cfg due steps demand own spare hc htimer hdue hsteps hdemand hs hrun hride htripped hsyncing hstandby hspare
  subst hdemand
  have hsettled : s.station.state.Settled := hs
  have hown : own = ownShortfall s.station.state s.station.standbyOrigin (demandAtUpdate s.allocator)
      s.allocator.setpoint s.allocator.latestC := by
    rcases hs with h | h | h | h | h | h <;> rw [h]
    · exact hsyncing h
    · exact hrun h
    · exact hride (.inl h)
    · exact hride (.inr h)
    · exact hstandby h
    · exact htripped h
  obtain ⟨cover, hcover⟩ : ∃ x, x = coverOf s.station.state spare (own + (shortfallsOf s.peers).sum)
    (spare + (headroomsOf s.peers).sum) := ⟨_, rfl⟩
  obtain ⟨target, htarget⟩ : ∃ x, x = targetOf s.station.state (demandAtUpdate s.allocator) s.allocator.latestC cover :=
    ⟨_, rfl⟩
  have hupdated := (s.restartShareTimer cfg due).allocator.update_of_settled cfg s.station.standbyOrigin s.peers s.time
    hsettled hsteps hown hspare hcover htarget
  have hallocated := State.allocate_of_settled (s.restartShareTimer cfg due) cfg hsettled hupdated.symm rfl
  have hended := State.endOfUpdate_settled (u := (s.restartShareTimer cfg due).allocate cfg) cfg s.allocator.elapsedMs
    (by simpa using hsettled)
  have hexec := exec_shareUpdate_of due hc htimer hdue
  rw [if_pos hsettled.updates, hended, hallocated, elapsedMs_eq] at hexec
  refine ⟨_, hexec, rfl, rfl, ?_, ?_, ?_, ?_, ?_⟩
  · exact fun hnone => hcover.trans (coverOf_eq_zero hnone)
  · intro hs hspare howed
    rw [hs] at hcover
    exact (coverOf_run hspare howed).imp (fun h hle => hcover.trans (h hle)) (fun h hlt => hcover.trans (h hlt))
  · intro hs
    rw [hs] at htarget
    exact htarget
  · intro hs
    rw [hs] at htarget
    exact htarget
  · exact fun hs hs' => htarget.trans (hsettled.targetOf_eq_zero hs hs' _ _ _)

end Sys2Proof.Machine
end

section
/-! SUPPORT. The share update that an ALERT brings forward: the table it finds, the update run at once, and what the
tests at its end leave of the update (R112 to R117, R125, R135, R136, R146): O45. -/

namespace Sys2Proof.Machine

/-! ### The table of an ALERT (R109, R112 to R117) -/

/-- A new entry stands between the lower numbers and the higher ones. -/
theorem insertPeer_between (p : Peer) (before after : List Peer) (hbefore : ∀ q ∈ before, q.station < p.station)
    (hafter : ∀ q ∈ after, p.station < q.station) : insertPeer p (before ++ after) = before ++ p :: after := by
  induction before with
  | nil =>
    cases after with
    | nil => rfl
    | cons q rest => exact if_pos (hafter q List.mem_cons_self)
  | cons q rest ih =>
    obtain ⟨hq, hrest⟩ := List.forall_mem_cons.mp hbefore
    have hlater : ¬ p.station < q.station := by omega
    rw [List.cons_append, insertPeer, if_neg hlater, ih hrest, List.cons_append]

section
variable {s : State} {cfg : Configuration} {f : Frame} {b : AlertBody}

theorem not_leave_of_alert (hb : f.body = .alert b) : f.body ≠ .leave := by simp [hb]

theorem asksEarly_of_alert (hb : f.body = .alert b) (hkind : b.kind = .onset ∨ b.kind = .block ∨ b.kind = .trip) :
    f.body.asksEarly = true := by
  rcases hkind with hkind | hkind | hkind <;> simp [Body.asksEarly, hb, hkind]

/-- An ALERT from a new number puts its entry in order (R112, R117). -/
theorem acceptNew_of_alert (hb : f.body = .alert b) {before after : List Peer} (hsplit : s.peers = before ++ after)
    (hbefore : ∀ q ∈ before, q.station < f.station) (hafter : ∀ q ∈ after, f.station < q.station) :
    (acceptedWith s s.peers []).acceptNew f =
      acceptedWith s (before ++ alertedPeer (unheardPeer f.station) f b 0 :: after) [.peerJoined] := by
  have hcreated : (Peer.created f.station f.sequence).takeBody f.body = alertedPeer (unheardPeer f.station) f b 0 := by
    rw [hb]
    rfl
  rw [State.acceptNew_of_fields (not_leave_of_alert hb), hcreated, ← insertPeer_between _ before after hbefore hafter,
    ← hsplit]
  rfl

/-- An ALERT from a known peer changes its entry (R115, R117). -/
theorem acceptFields_of_alert (hb : f.body = .alert b) {p : Peer} (missed : Nat → Nat)
    (hascending : s.peers.Pairwise fun a b => a.station < b.station) (hp : findPeer s.peers f.station = some p) :
    (acceptedWith s s.peers []).acceptFields f missed =
      acceptedWith s (withEntry s.peers f.station (alertedPeer p f b (missed p.missed))) [] := by
  have hentry : { (p.takeBody f.body).refresh f.sequence with missed := missed p.missed } =
      alertedPeer p f b (missed p.missed) := by
    rw [hb]
    rfl
  rw [← hentry, ← updatePeer_eq_withEntry (fun q =>
    { (q.takeBody f.body).refresh f.sequence with missed := missed q.missed }) hascending hp]
  rfl

/-- The frame is accepted, with the table and the events that it leaves (R106, R111). -/
def TakenWith (s : State) (f : Frame) (table : List Peer) (kinds : List EventKind) : Prop :=
  s.verdict f = .accepted ∧ (acceptedWith s s.peers []).acceptFrame f = acceptedWith s table kinds

theorem takenWith_of_new (hb : f.body = .alert b) {before after : List Peer} (hsplit : s.peers = before ++ after)
    (hbefore : ∀ q ∈ before, q.station < f.station) (hafter : ∀ q ∈ after, f.station < q.station) :
    TakenWith s f (before ++ alertedPeer (unheardPeer f.station) f b 0 :: after) [.peerJoined] := by
  have hp : findPeer s.peers f.station = none := by
    rw [findPeer_none, hsplit]
    exact List.forall_mem_append.mpr ⟨fun q hq => (hbefore q hq).ne, fun q hq => (hafter q hq).ne'⟩
  exact ⟨State.verdict_of_new hp,
    (State.acceptFrame_of_new (by exact hp)).trans (acceptNew_of_alert hb hsplit hbefore hafter)⟩

/-- Without the flag the distance decides (R114). -/
theorem takenWith_of_unflagged {p : Peer} (hp : findPeer s.peers f.station = some p) (hf : f.first = false)
    (hd : (1 ≤ sequenceDistance f.sequence p.lastSequence ∧ sequenceDistance f.sequence p.lastSequence ≤ 127) ∨
      (128 ≤ sequenceDistance f.sequence p.lastSequence ∧ p.status ≠ .fresh))
    {table : List Peer} {kinds : List EventKind}
    (htable : (acceptedWith s s.peers []).acceptUnflagged f (sequenceDistance f.sequence p.lastSequence) =
      acceptedWith s table kinds) : TakenWith s f table kinds :=
  ⟨(State.verdict_of_unflagged hp hf).trans (distanceVerdict_accepted hd),
    (State.acceptFrame_of_unflagged (by exact hp) hf).trans htable⟩

section
variable {p : Peer} (hb : f.body = .alert b) (hascending : s.peers.Pairwise fun a b => a.station < b.station)
  (hp : findPeer s.peers f.station = some p)

include hb hascending hp

theorem takenWith_of_flagged (hf : f.first = true) :
    TakenWith s f (withEntry s.peers f.station (alertedPeer p f b 0)) [.peerRestart] := by
  refine ⟨State.verdict_of_flagged hf, ?_⟩
  rw [State.acceptFrame_of_flagged (by exact hp) hf, State.acceptFlagged_of_fields (not_leave_of_alert hb),
    acceptFields_of_alert hb _ hascending hp]
  rfl

variable (hf : f.first = false)

include hf

theorem takenWith_of_next (hd : sequenceDistance f.sequence p.lastSequence = 1) :
    TakenWith s f (withEntry s.peers f.station (alertedPeer p f b p.missed)) [] := by
  refine takenWith_of_unflagged hp hf (by omega) ?_
  rw [State.acceptUnflagged_next (not_leave_of_alert hb) hd, acceptFields_of_alert hb _ hascending hp]
  rfl

theorem takenWith_of_gap (hlow : 2 ≤ sequenceDistance f.sequence p.lastSequence)
    (hhigh : sequenceDistance f.sequence p.lastSequence ≤ 127) :
    TakenWith s f (withEntry s.peers f.station (alertedPeer p f b
      (min 255 (p.missed + (sequenceDistance f.sequence p.lastSequence - 1))))) [.seqGap] := by
  refine takenWith_of_unflagged hp hf (by omega) ?_
  rw [State.acceptUnflagged_gap (not_leave_of_alert hb) hlow hhigh, acceptFields_of_alert hb _ hascending hp]
  rfl

theorem takenWith_of_far (hfar : 128 ≤ sequenceDistance f.sequence p.lastSequence) (hold : p.status ≠ .fresh) :
    TakenWith s f (withEntry s.peers f.station (alertedPeer p f b p.missed)) [.peerRestart] := by
  refine takenWith_of_unflagged hp hf (.inr ⟨hfar, hold⟩) ?_
  rw [State.acceptUnflagged_far (not_leave_of_alert hb) hfar, acceptFields_of_alert hb _ hascending hp]
  rfl

end

/-- An accepted ALERT that asks for it may bring a share update forward (R106, R111, R125). -/
theorem Arrives.exec_asking (h : Arrives s cfg f) {table : List Peer} {kinds : List EventKind}
    (htaken : TakenWith s f table kinds) (he : f.body.asksEarly = true) :
    exec (.frameReceived (onTheLine f)) s = .next ((acceptedWith s table kinds).earlyUpdate cfg) := by
  obtain ⟨hv, htable⟩ := htaken
  have hheard : ({ s with line := heardLine s.line } : State).verdict f = .accepted := hv
  rw [h.exec_handsOver, State.handOver, hheard, ← htable]
  exact congrArg Host.Outcome.next (if_pos he)

end

/-! ### What the tests at the end of an update leave of it (R4, R7, R140, R146, R147) -/

/-- The timer in every case, and outside OFF the figures of the update `x` and its frame. -/
structure UpdateStands (x t : State) : Prop where
  timer : t.allocator.shareTimer = x.allocator.shareTimer
  lastUpdate : t.station.state ≠ .off → t.allocator.lastUpdate = x.allocator.lastUpdate
  shortfall : t.station.state ≠ .off → t.allocator.shortfall = x.allocator.shortfall
  shortfallSum : t.station.state ≠ .off → t.allocator.shortfallSum = x.allocator.shortfallSum
  frame : t.station.state ≠ .off → t.line.shareSlot = x.line.shareSlot

namespace UpdateStands

variable {x t : State} {cfg : Configuration}

theorem refl : UpdateStands x x := ⟨rfl, fun _ => rfl, fun _ => rfl, fun _ => rfl, fun _ => rfl⟩

theorem count (h : UpdateStands x t) (k : EventKind) : UpdateStands x (t.count k) := by
  obtain ⟨htimer, hlast, hshortfall, hsum, hframe⟩ := h
  exact ⟨htimer, hlast, hshortfall, hsum, hframe⟩

theorem queueAlert (h : UpdateStands x t) (kind : AlertKind) : UpdateStands x (t.queueAlert kind) := by
  unfold State.queueAlert State.queueFrame
  split
  · obtain ⟨htimer, hlast, hshortfall, hsum, hframe⟩ := h
    exact ⟨htimer, hlast, hshortfall, hsum, hframe⟩
  · exact h.count _

/-- An entry, whatever the controller records with it: into OFF alone it resets the figures and takes the frame. -/
theorem enter (cfg : Configuration) {dest : StationState} {st : Station} (hs : x.station.state ≠ .off)
    (hst : st.state = dest) :
    UpdateStands x ((x.enter cfg dest).setStation st) := by
  have hallocator (hd : st.state ≠ .off) : ((x.enter cfg dest).setStation st).allocator =
      { departedAllocator x.allocator x.station.state with setpoint := entrySetpoint x.allocator dest } :=
    x.allocator.enter_eq _ _ (hst ▸ hd)
  have hline (hd : st.state ≠ .off) : ((x.enter cfg dest).setStation st).line = x.line :=
    x.line.enter_eq _ _ _ hs (hst ▸ hd)
  exact ⟨rfl, fun hd => by rw [hallocator hd]; rfl, fun hd => by rw [hallocator hd]; rfl,
    fun hd => by rw [hallocator hd]; rfl, fun hd => by rw [hline hd]⟩

theorem enterDestination (hs : x.station.state ≠ .off) : UpdateStands x (x.enterDestination cfg) := by
  unfold State.enterDestination
  split
  · exact enter cfg hs rfl
  · exact enter cfg hs rfl
  · exact refl

theorem endOfUpdate (hs : x.station.state ≠ .off) (elapsed : Nat) : UpdateStands x (x.endOfUpdate cfg elapsed) := by
  have hcompleted : UpdateStands x (x.completeRestart cfg) :=
    ((enter cfg hs rfl).queueAlert .recovered).count .recovered
  unfold State.endOfUpdate State.testStopping
  split
  case h_1 =>
    split
    · exact enter cfg hs rfl
    · exact refl
  case h_2 =>
    split
    · exact hcompleted
    · exact refl
  case h_3 =>
    split
    · exact enterDestination hs
    · exact refl
  case h_4 => exact ⟨rfl, fun _ => rfl, fun _ => rfl, fun _ => rfl, fun _ => rfl⟩
  all_goals exact refl

end UpdateStands

/-! ### The early update (R125, R135) -/

/-- An early update runs in every configured state other than OFF, when the last one is 1 ms old or none is held. -/
theorem State.earlyAdmitted_iff (s : State) : s.earlyAdmitted = true ↔
    (s.station.state ≠ .off ∧ s.station.state ≠ .unconfigured) ∧
      ∀ last, s.allocator.lastUpdate = some last → 1000 ≤ (s.time - last.1).toNat := by
  have hupdates : s.station.state.updates = true ↔ s.station.state ≠ .off ∧ s.station.state ≠ .unconfigured := by
    cases s.station.state <;> decide
  rw [State.earlyAdmitted, Bool.and_eq_true, hupdates]
  cases s.allocator.lastUpdate <;> simp [hasRun]

theorem State.earlyUpdate_of_admitted {u : State} (cfg : Configuration) (h : u.earlyAdmitted = true) :
    u.earlyUpdate cfg = (u.restartShareTimer cfg u.time).runShareUpdate cfg := if_pos h

theorem State.earlyUpdate_of_refused {u : State} (cfg : Configuration) (h : ¬ u.earlyAdmitted = true) :
    u.earlyUpdate cfg = u := if_neg h

/-- An early update is the update of an expiry at this instant (R125, R135). -/
theorem exec_shareUpdate_early {u : State} {cfg : Configuration} (hc : u.port.config = some cfg)
    (hadmitted : u.earlyAdmitted = true) :
    exec .shareUpdate { u with allocator := { u.allocator with shareTimer := some u.time } } =
      .next (u.earlyUpdate cfg) := by
  have hupdates : u.station.state.updates = true := (Bool.and_eq_true _ _ ▸ hadmitted).1
  have hexec := exec_shareUpdate_of (s := { u with allocator := { u.allocator with shareTimer := some u.time } })
    u.time hc rfl (by simp)
  rw [if_pos (by exact hupdates)] at hexec
  rw [State.earlyUpdate_of_admitted cfg hadmitted]
  exact hexec

/-- What an update leaves in the allocator and in the share slot, when its tests do not end it in OFF (R97, R135, R139,
R145). -/
theorem State.runShareUpdate_stands (u : State) (cfg : Configuration) (hs : u.station.state ≠ .off) :
    (u.runShareUpdate cfg).allocator.shareTimer = u.allocator.shareTimer ∧
    ((u.runShareUpdate cfg).station.state ≠ .off →
      (u.runShareUpdate cfg).allocator.lastUpdate = some (u.time, u.allocator.ms) ∧
      (u.runShareUpdate cfg).allocator.shortfallSum =
        (u.runShareUpdate cfg).allocator.shortfall + (shortfallsOf u.peers).sum ∧
      (u.runShareUpdate cfg).line.shareSlot.map ShareBody.shortfall =
        some (u.runShareUpdate cfg).allocator.shortfall) := by
  have hallocate := u.allocate_eq cfg rfl
  have hsum : (u.allocate cfg).allocator.shortfallSum =
      (u.allocate cfg).allocator.shortfall + (shortfallsOf u.peers).sum := by
    rw [hallocate, ← shortfallCounted_eq]
    rfl
  obtain ⟨htimer, hlast, hshortfall, hshortfallSum, hframe⟩ :=
    UpdateStands.endOfUpdate (x := u.allocate cfg) (cfg := cfg) (by simpa using hs) u.allocator.elapsedMs
  refine ⟨htimer.trans (by rw [hallocate]; rfl), fun hend => ⟨?_, ?_, ?_⟩⟩
  · exact (hlast hend).trans (by rw [hallocate]; rfl)
  · exact (hshortfallSum hend).trans ((hshortfall hend).symm ▸ hsum)
  · exact (congrArg (Option.map ShareBody.shortfall) (hframe hend)).trans
      ((hshortfall hend).symm ▸ by rw [hallocate]; rfl)

/-- Settles O45: the ALERT is accepted with the table of the statement, and the early update is the one of an expiry. -/
theorem alertBringsTheShareUpdateForward : Obligations.AlertBringsTheShareUpdateForward := by
  intro s u cfg f b table kinds hc hl hrange hown hgroup hother hsame hascending hb hkind htable hu
  have h : Arrives s cfg f := ⟨hc, hl, hrange, hown, hgroup, hother, hsame⟩
  have htaken : TakenWith s f table kinds := by
    rcases htable with ⟨before, after, hsplit, hbefore, hafter, rfl, rfl⟩ | ⟨p, hp, hknown⟩
    · exact takenWith_of_new hb hsplit hbefore hafter
    · replace hp : findPeer s.peers f.station = some p := hp
      rcases hknown with ⟨hf, rfl, rfl⟩ | ⟨hf, hnext, rfl, rfl⟩ | ⟨hf, hfar, hold, rfl, rfl⟩ |
        ⟨hf, hlow, hhigh, rfl, rfl⟩
      · exact takenWith_of_flagged hb hascending hp hf
      · exact takenWith_of_next hb hascending hp hf (congrArg BitVec.toNat hnext)
      · exact takenWith_of_far hb hascending hp hf hfar hold
      · exact takenWith_of_gap hb hascending hp hf hlow hhigh
  have hadmitted : u.earlyAdmitted = true ↔ (s.station.state ≠ .off ∧ s.station.state ≠ .unconfigured) ∧
      ∀ last, s.allocator.lastUpdate = some last → 1000 ≤ (s.time - last.1).toNat := by
    rw [hu]
    exact State.earlyAdmitted_iff _
  rw [h.exec_asking htaken (asksEarly_of_alert hb hkind), ← hu]
  refine ⟨fun hoff hconfigured hold => ?_, fun hrefused => ?_⟩
  · have hearly := hadmitted.mpr ⟨⟨hoff, hconfigured⟩, hold⟩
    have hexec := exec_shareUpdate_early (cfg := cfg) (by rw [hu]; exact hc) hearly
    have hstands := (u.restartShareTimer cfg u.time).runShareUpdate_stands cfg (by rw [hu]; exact hoff)
    rw [← State.earlyUpdate_of_admitted cfg hearly] at hstands
    obtain ⟨-, htime, htracker, hsampler, hclassifier, hfilter, hpeers, -, -, hport⟩ := u.earlyUpdate_frame cfg
    subst hu
    exact ⟨_, rfl, hexec, hpeers, hfilter, htime, hport, htracker, hsampler, hclassifier, hstands⟩
  · rw [State.earlyUpdate_of_refused]
    rw [hadmitted]
    rintro ⟨⟨hoff, -⟩, hold⟩
    rcases hrefused with hoff' | ⟨last, hlast, hrecent⟩
    · exact hoff hoff'
    · exact absurd (hold last hlast) (by omega)

end Sys2Proof.Machine
end

section
/-! SUPPORT. SP within C, c within H within L, and the allocator's latest figures (R140, R147, R148): what an entry, a
figure set and a share update make of them, and the operations of station, classifier and tracker, which change them by
entries alone. -/

namespace Sys2Proof.Machine

/-- The three predicates on setpoint and cover, which only together are kept: an entry into RESTART takes SP from the
allocator's own latest figures (R140, R147, R148). -/
structure State.SupplySound (s : State) : Prop where
  shared : s.FiguresShared
  setpoint : s.SetpointSound
  cover : s.CoverSound

/-- All that the three predicates see of the part. -/
def State.supply (s : State) :
    Option Configuration × StationState × (Nat × Nat × Nat) × (Nat × Nat × Bool) × (Nat × Nat × Bool) :=
  (s.port.config, s.station.state, (s.allocator.setpoint, s.allocator.headroom, s.allocator.cover),
    (s.allocator.latestC, s.allocator.latestI, s.allocator.latestDcLimit),
    (s.sampler.figures.capability, s.sampler.figures.current, s.sampler.dcLimit))

section
variable {t u : State} {cfg : Configuration} {dest : StationState}

/-! ### Changes that the three do not see -/

theorem State.SupplySound.unseen (h : t.SupplySound) (heq : u.supply = t.supply) : u.SupplySound := by
  simp only [State.supply, Prod.mk.injEq] at heq
  obtain ⟨hconfig, hstate, ⟨hsetpoint, hheadroom, hcover⟩, ⟨hC, hI, hdc⟩, hcapability, hcurrent, hlimit⟩ := heq
  obtain ⟨h1, h2, h3⟩ := h
  exact ⟨by simpa only [State.FiguresShared, hC, hI, hdc, hcapability, hcurrent, hlimit] using h1,
    by simpa only [State.SetpointSound, hsetpoint, hcapability, hconfig, hstate] using h2,
    by simpa only [State.CoverSound, hheadroom, hcover, hconfig, hstate] using h3⟩

@[simp] theorem State.count_supply (k : EventKind) : (t.count k).supply = t.supply := rfl

@[simp] theorem State.countIf_supply (came : Bool) (k : EventKind) : (t.countIf came k).supply = t.supply := by
  simp [State.supply]

@[simp] theorem State.answer_supply (r : Response) : (t.answer r).supply = t.supply := rfl

@[simp] theorem State.emptyStack_supply : t.emptyStack.supply = t.supply := rfl

@[simp] theorem State.queueAlert_supply (kind : AlertKind) : (t.queueAlert kind).supply = t.supply := by
  simp [State.supply]

@[simp] theorem State.enterStandby_supply (origin : StandbyOrigin) :
    (t.enterStandby cfg origin).supply = (t.enter cfg .standby).supply := rfl

@[simp] theorem State.enterStopping_supply (destination : Destination) (origin : Option StoppingOrigin) :
    (t.enterStopping cfg destination origin).supply = (t.enter cfg .stopping).supply := rfl

@[simp] theorem State.enter_pushContext_supply (setpoint : Nat) :
    ((t.pushContext setpoint).enter cfg dest).supply = (t.enter cfg dest).supply := rfl

/-! ### An entry (R4, R140, R147) -/

/-- Outside the firing states an entry sets SP to 0 (R147). -/
theorem entrySetpoint_of_not_firing (a : Allocator) (hd : dest ≠ .unconfigured) (hf : dest.firing = false) :
    entrySetpoint a dest = 0 := by
  cases dest
  case unconfigured => exact absurd rfl hd
  case off | syncing | blocked | standby | tripped => rfl
  all_goals cases hf

/-- An entry sets SP to 0, to I_meas limited to C, or keeps it (R147). -/
theorem entrySetpoint_le (a : Allocator) (dest : StationState) (h : a.setpoint ≤ a.latestC) :
    entrySetpoint a dest ≤ a.latestC := by
  cases dest
  case off | syncing | starting | blocked | standby | tripped => exact Nat.zero_le _
  case restart => exact Nat.min_le_right _ _
  all_goals exact h

/-- An entry leaves H and c at 0: departure from RUN clears them, and elsewhere they are 0 already (R140). -/
theorem State.CoverSound.enter (h : t.CoverSound) :
    (t.enter cfg dest).allocator.headroom = 0 ∧ (t.enter cfg dest).allocator.cover = 0 := by
  obtain ⟨-, -, helsewhere⟩ := h
  by_cases hrun : t.station.state = .run
  · simp [Allocator.enter, hrun]
  · simpa [Allocator.enter, hrun] using helsewhere hrun

theorem State.SupplySound.enter (h : t.SupplySound) (cfg : Configuration) (dest : StationState)
    (hd : dest ≠ .unconfigured := by decide) : (t.enter cfg dest).SupplySound := by
  obtain ⟨hheadroom, hcover⟩ := h.cover.enter (cfg := cfg) (dest := dest)
  obtain ⟨hwithin, hinactive, hrating, -⟩ := h.setpoint
  have hlatest : t.allocator.latestC = t.sampler.figures.capability := h.shared.1
  refine ⟨h.shared, ⟨?_, hinactive, hrating, entrySetpoint_of_not_firing t.allocator hd⟩, ?_⟩
  · exact hlatest ▸ entrySetpoint_le t.allocator dest (hlatest ▸ hwithin)
  · exact ⟨hcover.trans_le (Nat.zero_le _), fun _ _ => hheadroom.trans_le (Nat.zero_le _),
      fun _ => ⟨hheadroom, hcover⟩⟩

/-- An operation that comes down to one entry, as far as the three see it. -/
theorem State.SupplySound.entered (h : t.SupplySound) (cfg : Configuration) (dest : StationState)
    (heq : u.supply = (t.enter cfg dest).supply) (hd : dest ≠ .unconfigured := by decide) : u.SupplySound :=
  (h.enter cfg dest hd).unseen heq

/-! ### A figure set (R52 to R56, R148) -/

/-- The allocator takes C with the figures and, in a firing state, limits SP to it; elsewhere SP is 0 (R148). -/
theorem State.SupplySound.formFigureSet (h : t.SupplySound) (hc : t.port.config = some cfg) :
    (t.formFigureSet cfg).SupplySound := by
  obtain ⟨-, -, -, hidle⟩ := h.setpoint
  have hsetpoint : (t.formFigureSet cfg).allocator.setpoint ≤ (t.formFigureSet cfg).sampler.figures.capability ∧
      (t.station.state.firing = false → (t.formFigureSet cfg).allocator.setpoint = 0) := by
    cases hf : t.station.state.firing
    · simp [State.formFigureSet, Allocator.takeFigures, hf, hidle hf]
    · simp [State.formFigureSet, Allocator.takeFigures, hf]
  refine ⟨⟨rfl, rfl, rfl⟩, ⟨hsetpoint.1, fun hn => ?_, fun x hx => ?_, hsetpoint.2⟩, h.cover⟩
  · exact absurd (hc.symm.trans hn) (Option.some_ne_none cfg)
  · obtain rfl := Option.some.inj (hc.symm.trans hx)
    exact formFigures_capability_le t.sampler cfg

/-! ### A share update (R136 to R143) -/

/-- Outside RUN an update leaves H and c at 0 (R138, R140). -/
theorem Allocator.update_of_not_run (a : Allocator) (cfg : Configuration) {state : StationState}
    (origin : Option StandbyOrigin) (peers : List Peer) (now : Micros) (hs : state ≠ .run) :
    (a.update cfg state origin peers now).headroom = 0 ∧ (a.update cfg state origin peers now).cover = 0 := by
  simp [Allocator.update, ownHeadroom, coverOf, hs]

/-- An update keeps SP outside the firing states and limits the moved one to C in them (R142). -/
theorem Allocator.update_setpoint (a : Allocator) (cfg : Configuration) (state : StationState)
    (origin : Option StandbyOrigin) (peers : List Peer) (now : Micros) :
    (state.firing = false → (a.update cfg state origin peers now).setpoint = a.setpoint) ∧
    (state.firing = true → (a.update cfg state origin peers now).setpoint ≤ a.latestC) := by
  refine ⟨fun hf => ?_, fun hf => ?_⟩
  · simp [Allocator.update, Allocator.applyPending, hf]
  · simp only [Allocator.update, hf, if_true]
    exact rampedSetpoint_le ..

theorem State.SupplySound.allocate (h : t.SupplySound) (hc : t.port.config = some cfg) :
    (t.allocate cfg).SupplySound := by
  obtain ⟨hkept, hmoved⟩ :=
    t.allocator.update_setpoint cfg t.station.state t.station.standbyOrigin t.peers t.time
  obtain ⟨hwithin, hinactive, hrating, hidle⟩ := h.setpoint
  have hlatest : t.allocator.latestC = t.sampler.figures.capability := h.shared.1
  have hupdated : (t.setAllocator
      (t.allocator.update cfg t.station.state t.station.standbyOrigin t.peers t.time)).SupplySound := by
    refine ⟨h.shared, ⟨?_, hinactive, hrating, fun hf => (hkept hf).trans (hidle hf)⟩,
      ⟨coverOf_le .., fun x hx => ?_, fun hs => Allocator.update_of_not_run _ _ _ _ _ hs⟩⟩
    · cases hf : t.station.state.firing
      · exact (hkept hf).le.trans hwithin
      · exact (hmoved hf).trans hlatest.le
    · obtain rfl := Option.some.inj (hc.symm.trans hx)
      exact ownHeadroom_le ..
  exact hupdated.unseen (by simp [State.supply, State.allocate])

/-! ### The Station Controller -/

theorem State.SupplySound.trip (h : t.SupplySound) (cause : TripCause) : (t.trip cfg cause).SupplySound := by
  unfold State.trip
  split
  · exact h
  · exact h.unseen rfl
  all_goals
    have hhanded : (t.setFault (t.fault.take (t.tripPicture cause))).SupplySound := h.unseen rfl
    exact hhanded.entered cfg .tripped (by simp)

theorem State.SupplySound.enterStandby (h : t.SupplySound) (cfg : Configuration) (origin : StandbyOrigin) :
    (t.enterStandby cfg origin).SupplySound := h.entered cfg .standby rfl

theorem State.SupplySound.protectionStandby (h : t.SupplySound) : (t.protectionStandby cfg).SupplySound := by
  unfold State.protectionStandby
  split
  case h_1 | h_2 | h_3 | h_4 | h_5 | h_6 | h_7 => exact (h.enterStandby cfg .protection).unseen (by simp)
  all_goals exact h

theorem State.SupplySound.testStart (h : t.SupplySound) : (t.testStart cfg).SupplySound := by
  unfold State.testStart
  split
  · exact h.enter cfg _
  · exact h

theorem State.SupplySound.enterDestination (h : t.SupplySound) : (t.enterDestination cfg).SupplySound := by
  unfold State.enterDestination
  split
  · exact h.enter cfg _
  · exact h.enterStandby cfg _
  · exact h

theorem State.SupplySound.testStopping (h : t.SupplySound) : (t.testStopping cfg).SupplySound := by
  unfold State.testStopping
  split
  · exact h.enterDestination
  · exact h

theorem State.SupplySound.boundaryTests (h : t.SupplySound) : (t.boundaryTests cfg).SupplySound := by
  unfold State.boundaryTests
  split
  · exact h.testStart
  · exact h.testStopping
  all_goals exact h

theorem State.SupplySound.rideOut (h : t.SupplySound) (setpoint : Nat) : (t.rideOut cfg setpoint).SupplySound :=
  h.entered cfg .ride (by simp [State.rideOut])

theorem State.SupplySound.enterBlocked (h : t.SupplySound) : (t.enterBlocked cfg).SupplySound :=
  h.entered cfg .blocked (by simp [State.enterBlocked])

theorem State.SupplySound.pushAndBlock (h : t.SupplySound) (setpoint : Nat) :
    ((t.pushContext setpoint).enterBlocked cfg).SupplySound :=
  h.entered cfg .blocked (by simp [State.enterBlocked])

theorem State.SupplySound.escalate (h : t.SupplySound) : (t.escalate cfg).SupplySound :=
  h.entered cfg .standby (by simp [State.escalate])

theorem State.SupplySound.reactTo (h : t.SupplySound) (x : Transition) (setpoint : Nat) :
    (t.reactTo cfg x setpoint).SupplySound := by
  unfold State.reactTo
  split
  case h_1 => exact h.testStart
  case h_2 | h_3 | h_7 | h_8 => exact h.enter cfg _
  case h_4 => exact h.rideOut setpoint
  case h_5 => exact h.pushAndBlock setpoint
  case h_6 => exact h.enterBlocked
  case h_9 =>
    split
    · exact h.rideOut setpoint
    · exact h.escalate
  case h_10 =>
    split
    · exact h.pushAndBlock setpoint
    · exact h.escalate
  case h_11 => exact h.enterDestination
  case h_12 => exact h

theorem State.SupplySound.endOfUpdate (h : t.SupplySound) (ms : Nat) : (t.endOfUpdate cfg ms).SupplySound := by
  unfold State.endOfUpdate
  split
  · split
    · exact h.enter cfg _
    · exact h
  · split
    · exact h.entered cfg .run (by simp [State.completeRestart])
    · exact h
  · exact h.testStopping
  · exact h.unseen rfl
  all_goals exact h

theorem State.SupplySound.takeStart (h : t.SupplySound) : (t.takeStart cfg).SupplySound := by
  unfold State.takeStart
  split
  case h_1 | h_2 => exact h.entered cfg .syncing rfl
  all_goals exact h.unseen rfl

theorem State.SupplySound.takeStop (h : t.SupplySound) : (t.takeStop cfg).SupplySound := by
  unfold State.takeStop
  split
  case h_1 | h_6 | h_7 => exact h.entered cfg .off rfl
  case h_2 | h_3 | h_4 | h_5 => exact h.entered cfg .stopping rfl
  all_goals exact h.unseen rfl

theorem State.SupplySound.takeStandby (h : t.SupplySound) : (t.takeStandby cfg).SupplySound := by
  unfold State.takeStandby
  split
  case h_1 | h_2 | h_3 | h_4 => exact h.entered cfg .stopping rfl
  case h_5 | h_6 => exact (h.enterStandby cfg .request).unseen rfl
  all_goals exact h.unseen rfl

theorem State.SupplySound.takeClearFault (h : t.SupplySound) : (t.takeClearFault cfg).SupplySound := by
  unfold State.takeClearFault
  split
  case h_1 =>
    split
    · exact h.unseen rfl
    · exact h.entered cfg .off rfl
  all_goals exact h.unseen rfl

theorem State.SupplySound.resetStation (h : t.SupplySound) : (t.resetStation cfg).SupplySound := by
  unfold State.resetStation
  split
  case h_1 | h_2 => exact h
  case h_3 => exact h.unseen rfl
  all_goals exact h.entered cfg .off rfl

/-! ### The classifier (R63 to R75) -/

theorem State.SupplySound.report (h : t.SupplySound) (x : Classifier) (onset : Bool) (setpoint : Nat) :
    (t.report cfg x onset setpoint).SupplySound :=
  State.SupplySound.reactTo (t := t.setClassifier x) (h.unseen rfl) _ setpoint

theorem State.SupplySound.openDisturbance (h : t.SupplySound) (kind : DisturbanceKind) (entered : ClassifierState)
    (setpoint : Nat) : (t.openDisturbance cfg kind entered setpoint).SupplySound := by
  have hcounted : (t.countOnset kind entered).SupplySound := h.unseen (by simp [State.supply])
  exact hcounted.report _ true setpoint

theorem State.SupplySound.goOutside (h : t.SupplySound) (setpoint : Nat) : (t.goOutside cfg setpoint).SupplySound :=
  State.SupplySound.report (h.unseen (State.count_supply .block)) _ false setpoint

theorem State.SupplySound.joinSag (h : t.SupplySound) (v : Nat) : (t.joinSag cfg v).SupplySound :=
  h.unseen (by simp [State.supply])

theorem State.SupplySound.testRecovery (h : t.SupplySound) (v setpoint : Nat) :
    (t.testRecovery cfg v setpoint).SupplySound := by
  unfold State.testRecovery
  split
  · exact h.report _ false setpoint
  · exact h

theorem State.SupplySound.classifyFigure (h : t.SupplySound) (v setpoint : Nat) :
    (t.classifyFigure cfg v setpoint).SupplySound := by
  unfold State.classifyFigure
  split
  case h_1 => exact h
  case h_2 =>
    split
    · exact h.openDisturbance .sag _ setpoint
    · exact h
  case h_3 =>
    split
    · exact h.openDisturbance .sag _ setpoint
    · split
      · exact h.unseen rfl
      · exact h
  case h_4 =>
    split
    · exact (h.joinSag v).goOutside setpoint
    · exact (h.joinSag v).testRecovery v setpoint
  case h_5 => exact (h.joinSag v).testRecovery v setpoint

theorem State.SupplySound.classifyPhaseJump (h : t.SupplySound) : (t.classifyPhaseJump cfg).SupplySound := by
  unfold State.classifyPhaseJump
  split
  case h_1 => exact h
  case h_2 | h_3 => exact h.openDisturbance .phase .disturbed _
  case h_4 | h_5 => exact h.unseen rfl

theorem State.SupplySound.classifySyncLoss (h : t.SupplySound) : (t.classifySyncLoss cfg).SupplySound := by
  have hjoined : (t.joinKind .sync).SupplySound := h.unseen rfl
  unfold State.classifySyncLoss
  split
  case h_1 => exact h
  case h_2 | h_3 => exact h.openDisturbance .sync .outside _
  case h_4 => exact hjoined.goOutside _
  case h_5 => exact hjoined

theorem State.SupplySound.actOnBand (h : t.SupplySound) : (t.actOnBand cfg).SupplySound := by
  have honset : (t.openDisturbance cfg .frequency .disturbed t.allocator.setpoint).SupplySound :=
    h.openDisturbance .frequency .disturbed _
  unfold State.actOnBand
  split
  case h_1 => exact h
  case h_2 => exact iteInduction (fun _ => honset) fun _ => h
  case h_3 => exact iteInduction (fun _ => honset) fun _ => iteInduction (fun _ => h) fun _ => h.unseen rfl
  case h_4 | h_5 => exact iteInduction (fun _ => h.unseen (by simp [State.supply])) fun _ => h

theorem State.SupplySound.classifyFrequency (h : t.SupplySound) (f : Nat) :
    (t.classifyFrequency cfg f).SupplySound := by
  unfold State.classifyFrequency
  split
  · exact h
  · exact State.SupplySound.actOnBand (h.unseen rfl)

/-! ### The tracker (R29 to R41, R49, R50) -/

/-- A run of captures before lock touches timing alone (R32 to R34, R50). -/
theorem State.acquire_supply (interval : Nat) : (t.acquire cfg interval).supply = t.supply := by
  have hextended : (t.extendRun cfg interval).supply = t.supply := by
    unfold State.extendRun
    split <;> rfl
  unfold State.acquire
  split
  · exact hextended
  · split
    · exact hextended
    · rfl

theorem State.SupplySound.reportBand (h : t.SupplySound) (error : Int) : (t.reportBand cfg error).SupplySound := by
  unfold State.reportBand
  split
  · exact h
  · split
    · exact h.unseen rfl
    · exact State.SupplySound.classifyPhaseJump (h.unseen rfl)

theorem State.SupplySound.plausibleCapture (h : t.SupplySound) (interval : Nat) :
    (t.plausibleCapture cfg interval).SupplySound := by
  unfold State.plausibleCapture
  split
  · exact h.unseen rfl
  · exact h.unseen (State.acquire_supply interval)
  · have hlaid : (t.setTracker (t.tracker.lay cfg (t.tracker.newAnchor t.time)
        (lastFour (t.tracker.intervals ++ [interval])) (t.tracker.lastIndex.map fun m => m - 6) t.time)).SupplySound :=
      h.unseen rfl
    exact hlaid.reportBand _

theorem State.SupplySound.capture (h : t.SupplySound) : (t.capture cfg).SupplySound := by
  have hrecorded : (t.setTracker { t.tracker with previous := some t.time }).SupplySound := h.unseen rfl
  have hjudged : (t.judgeCapture cfg).SupplySound := by
    unfold State.judgeCapture
    split
    · exact hrecorded
    · split
      · exact hrecorded.plausibleCapture _
      · exact hrecorded
  exact hjudged.classifyFrequency _

theorem State.SupplySound.loseSync (h : t.SupplySound) : (t.loseSync cfg).SupplySound := by
  refine State.SupplySound.classifySyncLoss (h.unseen ?_)
  rcases t.sampler.lossNotice_cases cfg t.time with heq | ⟨due, heq⟩ <;> rw [heq] <;> rfl

end

end Sys2Proof.Machine
end

section
/-! SUPPORT. Setpoint and cover through a figure set, a share update, a received frame, the port and the resets; through
every command and every step; and with them O55. -/

namespace Sys2Proof.Machine

section
variable {s t : State} {cfg : Configuration}

/-! ### The neighbours of a figure set (R56, R154, R161) -/

theorem State.SupplySound.act {d : Delivery} (h : d.state.SupplySound) (r : FigureReport) (n : Neighbour) :
    (d.act cfg r n).state.SupplySound := by
  cases n <;> dsimp only [Delivery.act]
  case classifier => exact h.classifyFigure _ _
  case overcurrent | overTemperature => exact iteInduction (fun _ => h.trip _) fun _ => h
  case controller => exact h.boundaryTests
  case regulator =>
    split
    · exact h
    · unfold Delivery.regulate
      split
      · dsimp only
        split <;> exact h.unseen rfl
      · exact h
  case generator =>
    split
    · exact h
    · exact h.unseen rfl

theorem State.SupplySound.deliver (h : t.SupplySound) (r : FigureReport) (order : List Neighbour) :
    (t.deliver cfg r order).SupplySound := by
  have hall (l : List Neighbour) : ∀ d : Delivery, d.state.SupplySound →
      (l.foldl (Delivery.pass cfg r) d).state.SupplySound := by
    induction l with
    | nil => exact fun _ hd => hd
    | cons n rest ih => exact fun d hd => ih _ (by simpa [Delivery.pass] using hd.act r n)
  exact hall _ _ h

theorem State.SupplySound.takeBoundary (h : t.SupplySound) (b : Option Boundary) (start : Micros) (base : Nat)
    (plant : PlantInputs) (order : List Neighbour) (hc : t.port.config = some cfg) :
    (t.takeBoundary cfg b start base plant order).SupplySound := by
  have hdelivered := (h.formFigureSet hc).deliver (cfg := cfg) (t.figureReport cfg b) order
  refine hdelivered.unseen ?_
  simp [State.supply, State.takeBoundary, Sampler.nextSector_frame]

theorem State.SupplySound.issueBoundary (h : t.SupplySound) (plant : PlantInputs) (order : List Neighbour)
    (hc : t.port.config = some cfg) : (t.issueBoundary cfg plant order).SupplySound := by
  unfold State.issueBoundary
  split
  · exact h
  · rename_i b _
    have hissued : (t.setTracker (t.tracker.issue cfg b t.time)).SupplySound := h.unseen rfl
    exact hissued.takeBoundary _ _ _ plant order hc

theorem State.SupplySound.freeBoundary (h : t.SupplySound) (plant : PlantInputs) (order : List Neighbour)
    (hc : t.port.config = some cfg) : (t.freeBoundary cfg plant order).SupplySound := by
  unfold State.freeBoundary
  split
  · exact h
  · rename_i due _
    have htimed : (t.setSampler
        { t.sampler with freeTimer := some (afterMicros due (nominalSector cfg)) }).SupplySound := h.unseen rfl
    exact htimed.takeBoundary _ _ _ plant order hc

/-! ### When a share update runs (R125, R135) -/

theorem State.SupplySound.runShareUpdate (h : t.SupplySound) (hc : t.port.config = some cfg) :
    (t.runShareUpdate cfg).SupplySound := (h.allocate hc).endOfUpdate _

theorem State.SupplySound.restartShareTimer (h : t.SupplySound) (due : Micros) :
    (t.restartShareTimer cfg due).SupplySound := h.unseen rfl

theorem State.SupplySound.shareExpiry (h : t.SupplySound) (hc : t.port.config = some cfg) :
    (t.shareExpiry cfg).SupplySound := by
  unfold State.shareExpiry
  split
  · exact h
  · have hrestarted := h.restartShareTimer (cfg := cfg) ‹_›
    exact iteInduction (fun _ => hrestarted.runShareUpdate hc) fun _ => hrestarted

theorem State.SupplySound.earlyUpdate (h : t.SupplySound) (hc : t.port.config = some cfg) :
    (t.earlyUpdate cfg).SupplySound := by
  unfold State.earlyUpdate
  exact iteInduction (fun _ => (h.restartShareTimer t.time).runShareUpdate hc) fun _ => h

/-! ### Received frames (R102 to R118, R125) -/

theorem State.SupplySound.handOver (h : t.SupplySound) (f : Frame) (hc : t.port.config = some cfg) :
    (t.handOver cfg f).SupplySound := by
  have hcounted : (t.setFilter (t.filter.countVerdict (t.verdict f))).SupplySound := h.unseen rfl
  have haccepted : ((t.setFilter (t.filter.countVerdict (t.verdict f))).acceptFrame f).SupplySound :=
    hcounted.unseen (by simp [State.supply])
  unfold State.handOver
  dsimp only
  split
  · exact iteInduction (fun _ => haccepted.earlyUpdate (by simpa using hc)) fun _ => haccepted
  all_goals exact hcounted

theorem State.SupplySound.filterFrame (h : t.SupplySound) (bytes : List Byte) (malformed : Bool)
    (hc : t.port.config = some cfg) : (t.filterFrame cfg bytes malformed).SupplySound := by
  unfold State.filterFrame
  split
  · exact h.unseen rfl
  · unfold State.passFrame
    split
    · exact h.trip _
    · exact iteInduction (fun _ => h.unseen rfl) fun _ => h.handOver _ hc

theorem State.SupplySound.receiveCharacter (h : t.SupplySound) (x : Character) (hc : t.port.config = some cfg) :
    (t.receiveCharacter cfg x).SupplySound := by
  have hbusy (a : Option Assembly) : (t.setLine { t.line with view := .busy, assembly := a }).SupplySound :=
    h.unseen rfl
  exact iteInduction (fun _ => (hbusy none).filterFrame _ _ hc) fun _ => hbusy _

theorem State.SupplySound.receiveCharacters (xs : List Character) :
    ∀ {t : State}, t.SupplySound → t.port.config = some cfg → (t.receiveCharacters cfg xs).SupplySound := by
  induction xs with
  | nil => exact fun h _ => h
  | cons x rest ih => exact fun h hc => ih (h.receiveCharacter x hc) (by simpa using hc)

theorem State.SupplySound.abandonFrame (h : t.SupplySound) (a : Assembly) (hc : t.port.config = some cfg) :
    (t.abandonFrame cfg a).SupplySound := by
  have hquiet : (t.setLine (ShareLine.quieten { t.line with assembly := none } t.time)).SupplySound := h.unseen rfl
  exact hquiet.filterFrame _ _ hc

theorem State.SupplySound.collide (h : t.SupplySound) (xs : List Character) (hc : t.port.config = some cfg) :
    (t.collide cfg xs).SupplySound := by
  have haborted : ((t.setLine t.line.abort).count .collision).SupplySound := h.unseen rfl
  exact .receiveCharacters xs (iteInduction (fun _ => haborted.trip _) fun _ => haborted) (by split <;> simpa using hc)

/-! ### The Supervisor Port, the resets and the passing of time -/

theorem State.SupplySound.takeForgetPeer (h : t.SupplySound) (n : Nat) : (t.takeForgetPeer cfg n).SupplySound := by
  unfold State.takeForgetPeer
  (repeat' split) <;> exact h.unseen rfl

theorem State.SupplySound.takeAckEvents (h : t.SupplySound) (pairs : List (Nat × Nat)) :
    (t.takeAckEvents pairs).SupplySound := by
  unfold State.takeAckEvents
  split <;> exact h.unseen rfl

theorem State.SupplySound.judge (h : t.SupplySound) (message : List Byte) : (t.judge message).SupplySound := by
  unfold State.judge State.judgeComplete
  (repeat' split) <;> exact h.unseen rfl

/-- An accepted LOAD CONFIG finds SP, H and c at 0 in an UNCONFIGURED part, and leaves them and the figures (R45, R132,
R192). -/
theorem State.SupplySound.acceptConfiguration (h : t.SupplySound) (cfg : Configuration) (plant : PlantInputs)
    (hn : t.port.config = none) (hu : t.station.state = .unconfigured) :
    (t.acceptConfiguration cfg plant).SupplySound := by
  obtain ⟨hshared, ⟨hwithin, hinactive, -, hidle⟩, ⟨hcover, -, helsewhere⟩⟩ := h
  obtain ⟨hheadroom, hcovering⟩ := helsewhere (by simp [hu])
  have hcapability := hinactive hn
  have hsetpoint : t.allocator.setpoint = 0 := hidle (by simp [hu, StationState.firing])
  have hsampler := t.sampler.activate_eq cfg t.time plant
  refine ⟨?_, ?_, ?_⟩
  · simpa [State.FiguresShared, State.acceptConfiguration, hsampler, Allocator.activate] using hshared
  · simp [State.SetpointSound, State.acceptConfiguration, hsampler, Allocator.activate, hsetpoint, hcapability]
  · simp [State.CoverSound, State.acceptConfiguration, Allocator.activate, hheadroom, hcovering]

theorem State.SupplySound.takeLoadConfig (h : t.SupplySound) (hcfg : t.ConfigurationSound) (p : List Byte)
    (plant : PlantInputs) : (t.takeLoadConfig p plant).SupplySound := by
  obtain ⟨-, hunconfigured, -⟩ := hcfg
  unfold State.takeLoadConfig
  split
  · exact h.unseen rfl
  · split
    · exact h.unseen rfl
    · split
      · exact h.unseen rfl
      · rename_i hnone _ _
        have hn : t.port.config = none := by simpa using hnone
        exact (h.acceptConfiguration _ plant hn (hunconfigured.mpr hn)).unseen rfl

/-- A demand waits beside SP, C, c and H (R134). -/
theorem State.SupplySound.takeSetDemand (h : t.SupplySound) (value : Nat) :
    (t.takeSetDemand cfg value).SupplySound := by
  have hstored : (t.setAllocator (t.allocator.storeDemand t.station.state (min value cfg.rating))).SupplySound := by
    refine h.unseen ?_
    unfold Allocator.storeDemand
    split <;> rfl
  exact hstored.unseen (by simp [State.takeSetDemand])

theorem State.SupplySound.takeSample (h : t.SupplySound) (n : Fin 4) (level : Bool) :
    (t.takeSample n level).SupplySound := by
  have hsampled : (t.sampleInput n level).SupplySound := h.unseen rfl
  rcases t.takeSample_cases n level with heq | ⟨cfg, -, -, heq⟩ <;> rw [heq]
  · exact hsampled
  · cases t.protection[n].action
    · exact hsampled.trip _
    · exact hsampled.protectionStandby
    · exact hsampled.unseen rfl

theorem State.SupplySound.supervisorReset (h : t.SupplySound) : t.supervisorReset.SupplySound := by
  have hzeroed : (((t.setPort t.port.supervisorReset).setEvents t.events.zero).setFilter t.filter.zero).SupplySound :=
    h.unseen rfl
  unfold State.supervisorReset State.configured
  dsimp only
  split
  · exact hzeroed.unseen rfl
  · exact hzeroed.resetStation.unseen rfl

/-- The values after power-on reset are sound, whatever stood before (R2, R44, R131). -/
theorem State.SupplySound.reset (pending : List Instr) (asserted : Bool) :
    ((State.reset.setPending pending).setPort { SupervisorPort.reset with srstAsserted := asserted }).SupplySound := by
  obtain ⟨-, -, -, -, -, -, -, -, -, -, hshared, hsetpoint, hcover, -⟩ := resetIsSound
  have hreset : State.reset.SupplySound := ⟨hshared, hsetpoint, hcover⟩
  exact hreset.unseen rfl

theorem State.SupplySound.elapse (h : t.SupplySound) (us : Nat) : (t.elapse us).SupplySound := by
  refine h.unseen ?_
  unfold State.elapse State.elapseConfigured State.configured
  split <;> rfl

/-! ### Commands and steps -/

theorem State.SupplySound.configured (h : s.SupplySound) (f : Configuration → State)
    (hf : ∀ cfg, s.port.config = some cfg → (f cfg).SupplySound) : (s.configured f).SupplySound := by
  unfold State.configured
  split
  · exact h
  · exact hf _ ‹_›

theorem State.SupplySound.takeConfigured (h : s.SupplySound) (f : Configuration → State)
    (hf : ∀ cfg, (f cfg).SupplySound) : (s.takeConfigured f).SupplySound := by
  unfold State.takeConfigured
  split
  · exact h.unseen rfl
  · exact hf _

/-- A command that needs the configuration and acts when its event has come about. -/
theorem State.SupplySound.whenDue (h : s.SupplySound) (due : Configuration → Bool) (act : Configuration → State)
    (hact : ∀ cfg, s.port.config = some cfg → (act cfg).SupplySound) :
    (s.configured fun cfg => if due cfg then act cfg else s).SupplySound :=
  h.configured _ fun cfg hc => iteInduction (fun _ => hact cfg hc) fun _ => h

/-- A request that is taken when it is the one in progress. -/
theorem State.SupplySound.whenRequested (h : s.SupplySound) (r : Request) (f : Configuration → State)
    (hf : ∀ cfg, (f cfg).SupplySound) : (if s.requested r then s.takeConfigured f else s).SupplySound :=
  iteInduction (fun _ => h.takeConfigured f hf) fun _ => h

end

/-- Every command keeps setpoint and cover; LOAD CONFIG alone asks what an unconfigured part holds. -/
theorem exec_keepsSupplySound (c : Instr) {s t : State} (hexec : exec c s = .next t) (hcfg : s.ConfigurationSound)
    (h : s.SupplySound) : t.SupplySound := by
  cases c <;> obtain rfl := Host.Outcome.next.inj hexec
  case powerOnReset => exact .reset _ _
  case srst => exact h.supervisorReset
  case transferStart =>
    refine iteInduction (fun _ => h.unseen ?_) fun _ => h
    unfold SupervisorPort.beginTransfer
    split <;> rfl
  case transferEnd =>
    split
    · exact h
    · have hended : (s.setPort { s.port with transfer := none, sdo := [] }).SupplySound := h.unseen rfl
      exact hended.judge _
  case loadConfig plant =>
    split
    · exact h.takeLoadConfig hcfg _ plant
    · exact h
  case setDemand =>
    split
    · exact h.takeConfigured _ fun _ => h.takeSetDemand _
    · exact h
  case start => exact h.whenRequested .start _ fun _ => h.takeStart
  case stop => exact h.whenRequested .stop _ fun _ => h.takeStop
  case standby => exact h.whenRequested .standby _ fun _ => h.takeStandby
  case clearFault => exact h.whenRequested .clearFault _ fun _ => h.takeClearFault
  case readEvents => exact h.whenRequested .readEvents _ fun _ => h.unseen rfl
  case readFault => exact h.whenRequested .readFault _ fun _ => h.unseen rfl
  case readPeer =>
    split
    · exact h.takeConfigured _ fun _ => h.unseen rfl
    · exact h
  case forgetPeer =>
    split
    · exact h.takeConfigured _ fun _ => h.takeForgetPeer _
    · exact h
  case ackEvents =>
    split
    · exact h.takeConfigured _ fun _ => h.takeAckEvents _
    · exact h
  case capture => exact h.configured _ fun _ _ => h.capture
  case lossOfSync => exact h.whenDue (fun _ => s.lossDue) _ fun _ _ => h.loseSync
  case sectorBoundary plant order =>
    exact h.whenDue (fun _ => s.boundaryDue) _ fun _ hc => h.issueBoundary plant order hc
  case freeRunningBoundary plant order =>
    exact h.whenDue (fun _ => s.freeBoundaryDue) _ fun _ hc => h.freeBoundary plant order hc
  case sample plant => exact h.whenDue (fun _ => s.sampleDue) _ fun _ _ => h.unseen rfl
  case recoveryConfirmTimerExpiry => exact h.whenDue s.confirmDue _ fun _ _ => h.report _ false _
  case frequencyTimerExpiry => exact h.whenDue s.frequencyTimerDue _ fun _ _ => h.goOutside _
  case blockedTimerExpiry =>
    exact h.whenDue s.blockedTimerDue _ fun cfg _ => h.entered cfg .standby (by simp [State.blockTimeout])
  case lowLoadTimerExpiry => exact h.whenDue s.lowLoadDue _ fun cfg _ => h.entered cfg .stopping rfl
  case shareUpdate => exact h.whenDue (fun _ => s.shareDue) _ fun _ hc => h.shareExpiry hc
  case protectionEdge n level => exact iteInduction (fun _ => h) fun _ => h.takeSample n level
  case firing => exact h.whenDue (fun _ => s.firingDue) _ fun _ _ => h.unseen (by simp [State.supply])
  case frameAbandoned =>
    refine h.configured _ fun _ hc => ?_
    split
    · exact h
    · exact iteInduction (fun _ => h.abandonFrame _ hc) fun _ => h
  case frameReceived xs => exact h.whenDue (fun _ => s.line.receiving) _ fun _ hc => .receiveCharacters xs h hc
  case accessSlot => exact h.whenDue (fun cfg => s.line.atOwnSlot cfg s.time) _ fun _ _ => h.unseen rfl
  case collision xs =>
    refine h.configured _ fun _ hc => ?_
    split
    · exact h
    · exact iteInduction (fun _ => h.collide xs hc) fun _ => h
  case peerSilent n => exact h.whenDue (fun cfg => s.silentDue cfg n) _ fun _ _ => h.unseen rfl
  case peerLost n => exact h.whenDue (fun cfg => s.lostDue cfg n) _ fun _ _ => h.unseen rfl
  case srstRelease => exact h.unseen rfl
  case readStatus | pulseEnd | seekingEnd | lineBusy | interframeGapEnd | frameCompleted | alertExpiry =>
    exact iteInduction (fun _ => h.unseen rfl) fun _ => h

/-- Settles O55: entries, figure sets and share updates alone set SP and c, and each keeps them within C and H. -/
theorem everyStepKeepsSetpointAndCoverSound : Obligations.EveryStepKeepsSetpointAndCoverSound := by
  intro s t hcfg hshared hsetpoint hcover hstep
  have h : s.SupplySound := ⟨hshared, hsetpoint, hcover⟩
  have hkept : t.SupplySound := by
    unfold step at hstep
    split at hstep
    · obtain rfl := Host.Outcome.next.inj hstep
      exact iteInduction (fun _ => h) fun _ => h.elapse 1
    · exact exec_keepsSupplySound _ hstep hcfg (h.unseen rfl)
  exact ⟨hkept.shared, hkept.setpoint, hkept.cover⟩

end Sys2Proof.Machine
end

section
/-! SUPPORT. FIRING and PULSE_END at and before their instants: the list, the double pulse and the deassertion (R163,
R164). -/

namespace Sys2Proof.Machine

/-- FIRING on a configured part whose first entry has reached its fire time (R163). -/
theorem exec_firing_of_due {s : State} {cfg : Configuration} {f : PendingFiring} {rest : List PendingFiring}
    (hc : s.port.config = some cfg) (hf : s.gates.firings = f :: rest)
    (hdue : (s.time - f.fireTime).toNat < 2 ^ 31) :
    exec .firing s =
      .next { s with gates := Gates.doublePulse { s.gates with firings := rest } cfg s.time f.thyristor } := by
  have hreached : s.firingDue = true := by
    simpa [State.firingDue, hf, reached, atOrAfter] using hdue
  simp [exec, execFiring, State.configured, hc, hreached, State.fire, hf, State.setGates]

/-- An output with a pulse reaches its end as the two instants compare (R29, R164). -/
theorem State.pulseEndDue_iff {s : State} {i : Fin 6} {e : Micros} (he : s.gates.outputs[i] = some e) :
    s.pulseEndDue i = true ↔ (s.time - e).toNat < 2 ^ 31 := by
  rw [State.pulseEndDue, he]
  exact decide_eq_true_iff

/-- The pulsed outputs of thyristor `n` + 1 are its own and the one before it in firing order, where G6 comes before G1
(R163). -/
theorem pulsed_output_iff (i n : Fin 6) :
    (i = n ∨ i.val + 1 = n.val ∨ (n.val = 0 ∧ i.val = 5)) ↔ (i = n ∨ (i.val + 1) % 6 = n.val) := by
  omega

section
variable {cfg : Configuration} {now : Micros} {n i : Fin 6} {before after : Vector (Option Micros) 6}

/-- An output that the double pulse finds deasserted gets a pulse of W (R163). -/
theorem doublePulsed_of_deasserted (h : doublePulsed cfg now n before after)
    (hi : i = n ∨ (i.val + 1) % 6 = n.val) (hnone : before[i] = none) :
    after[i] = some (now + BitVec.ofNat 32 cfg.pulseWidth) := by
  have houtput := h i
  rwa [if_pos hi, hnone] at houtput

/-- A pulse that the double pulse finds given ends at the later of the two ends (R163). -/
theorem doublePulsed_of_asserted {e : Micros} (h : doublePulsed cfg now n before after)
    (hi : i = n ∨ (i.val + 1) % 6 = n.val) (he : before[i] = some e) :
    after[i] = some (if (e - (now + BitVec.ofNat 32 cfg.pulseWidth)).toNat < 2 ^ 31 then e
      else now + BitVec.ofNat 32 cfg.pulseWidth) := by
  have houtput := h i
  rwa [if_pos hi, he] at houtput

/-- The double pulse leaves the other outputs alone (R163). -/
theorem doublePulsed_of_other (h : doublePulsed cfg now n before after)
    (hi : ¬ (i = n ∨ (i.val + 1) % 6 = n.val)) : after[i] = before[i] := by
  have houtput := h i
  rwa [if_neg hi] at houtput

end

/-- Settles O37: FIRING is the double pulse of the entry it removes, read output by output, and PULSE_END compares the
output's end with the present time. -/
theorem firingPulsesTwoOutputsAndPulseEndDeasserts : Obligations.FiringPulsesTwoOutputsAndPulseEndDeasserts := by
  refine ⟨fun s cfg f rest hc hf hdue => ?_, fun s i e he => ⟨fun hdue => ?_, fun hahead => ?_⟩⟩
  · have hpulse := Gates.doublePulse_pulsed { s.gates with firings := rest } cfg s.time f.thyristor
    refine ⟨_, exec_firing_of_due hc hf hdue, rfl, rfl, rfl, fun i =>
      ⟨fun hpulsed => ?_, fun hown hprevious hwrapped => ?_⟩⟩
    · rw [pulsed_output_iff] at hpulsed
      refine ⟨doublePulsed_of_deasserted hpulse hpulsed, fun e he => ?_⟩
      have hend := doublePulsed_of_asserted hpulse hpulsed he
      exact ⟨fun hlater => by rwa [if_pos hlater] at hend,
        fun hearlier => by rwa [if_neg (Nat.not_lt.mpr hearlier)] at hend⟩
    · refine doublePulsed_of_other hpulse ?_
      rw [← pulsed_output_iff]
      exact not_or.mpr ⟨hown, not_or.mpr ⟨hprevious, hwrapped⟩⟩
  · exact congrArg Host.Outcome.next (if_pos ((State.pulseEndDue_iff he).mpr hdue))
  · have hnotDue : ¬ s.pulseEndDue i = true := by
      rw [State.pulseEndDue_iff he]
      exact Nat.not_lt.mpr hahead
    exact congrArg Host.Outcome.next (if_neg hnotDue)

end Sys2Proof.Machine
end

section
/-! SUPPORT. The Event Unit under its own operations and under every move: an occurrence (O22), the acknowledged pairs,
and the counters in range with the lines that follow them (O48) (R173, R174, R175, R177, R179). -/

namespace Sys2Proof.Machine

/-! ### One occurrence (R173, R174) -/

/-- A counter stands at the number of its kind less one. -/
theorem EventKind.number_eq (k : EventKind) : kindNumber k = k.index.val + 1 := by cases k <;> rfl

section
variable {e : EventUnit} {k : EventKind} {i : Fin 24}

theorem EventUnit.count_overflow_of_room (h : e.counters[k.index] < 255) : (e.count k).overflow = e.overflow := by
  rw [EventUnit.count, if_pos h, driveLines_overflow]

theorem EventUnit.count_counters_of_full (h : 255 ≤ e.counters[k.index]) : (e.count k).counters = e.counters := by
  rw [EventUnit.count, if_neg (Nat.not_lt.mpr h), driveLines_counters]

theorem EventUnit.count_overflow_other (h : k.index ≠ i) : (e.count k).overflow[i] = e.overflow[i] := by
  have hval : k.index.val ≠ i.val := fun heq => h (Fin.ext heq)
  unfold EventUnit.count
  split
  · rfl
  · simp [hval]

@[simp] theorem EventUnit.count_urgent : (e.count k).urgent = e.urgent := by
  unfold EventUnit.count
  split <;> rfl

/-- An occurrence drives the lines, whether it raises the counter or sets the marker (R175). -/
theorem EventUnit.count_lines :
    ((e.count k).attnU = true ↔ ∃ i : Fin 24, e.urgent[i] = true ∧ 0 < (e.count k).counters[i]) ∧
    ((e.count k).attnR = true ↔ ∃ i : Fin 24, e.urgent[i] = false ∧ 0 < (e.count k).counters[i]) := by
  unfold EventUnit.count
  split <;> exact driveLines_lines _

/-- An occurrence stops at 255 (R174). -/
theorem EventUnit.count_le (h : e.counters[i] ≤ 255) : (e.count k).counters[i] ≤ 255 := by
  by_cases hi : k.index = i
  · subst hi
    rcases Nat.lt_or_ge e.counters[k.index] 255 with hroom | hfull
    · rw [e.count_of_room k hroom]
      exact hroom
    · rwa [count_counters_of_full hfull]
  · rwa [e.count_other k hi]

/-! ### Acknowledged pairs (R177) -/

/-- One pair as the list of an acknowledgement takes it; `EventUnit.acknowledge_eq` ties it to the model. -/
def EventUnit.acknowledgeOne (e : EventUnit) (p : Nat × Nat) : EventUnit :=
  if h : 1 ≤ p.1 ∧ p.1 ≤ 24 then e.acknowledgePair ⟨p.1 - 1, by omega⟩ p.2 else e

theorem EventUnit.acknowledge_eq (e : EventUnit) (pairs : List (Nat × Nat)) :
    e.acknowledge pairs = (pairs.foldl EventUnit.acknowledgeOne e).driveLines := rfl

variable {p : Nat × Nat} {pairs : List (Nat × Nat)}

@[simp] theorem EventUnit.acknowledgeOne_urgent : (e.acknowledgeOne p).urgent = e.urgent := by
  unfold EventUnit.acknowledgeOne
  split <;> rfl

theorem EventUnit.acknowledgeOne_of_named (h : p.1 = i.val + 1) :
    (e.acknowledgeOne p).counters[i] = e.counters[i] - p.2 ∧
    (e.acknowledgeOne p).overflow[i] = (e.overflow[i] && decide (255 ≤ e.counters[i] - p.2)) := by
  have hpair : e.acknowledgeOne p = e.acknowledgePair i p.2 := by
    rw [EventUnit.acknowledgeOne, dif_pos (by omega)]
    congr
    omega
  rw [hpair]
  refine ⟨by simp [EventUnit.acknowledgePair], ?_⟩
  unfold EventUnit.acknowledgePair
  dsimp only
  split
  case isTrue hbelow => simpa using fun _ => hbelow
  case isFalse hfull => simpa using fun _ => Nat.not_lt.mp hfull

theorem EventUnit.acknowledgeOne_of_other (h : p.1 ≠ i.val + 1) :
    (e.acknowledgeOne p).counters[i] = e.counters[i] ∧ (e.acknowledgeOne p).overflow[i] = e.overflow[i] := by
  unfold EventUnit.acknowledgeOne EventUnit.acknowledgePair
  split
  case isTrue hrange =>
    have hplace : p.1 - 1 ≠ i.val := by omega
    refine ⟨by simp [hplace], ?_⟩
    dsimp only
    split
    · simp [hplace]
    · rfl
  case isFalse => exact ⟨rfl, rfl⟩

theorem EventUnit.acknowledgeOne_le : (e.acknowledgeOne p).counters[i] ≤ e.counters[i] := by
  by_cases h : p.1 = i.val + 1
  · rw [(acknowledgeOne_of_named h).1]
    exact Nat.sub_le _ _
  · rw [(acknowledgeOne_of_other h).1]

theorem EventUnit.acknowledgeAll_urgent : (pairs.foldl EventUnit.acknowledgeOne e).urgent = e.urgent := by
  induction pairs generalizing e with
  | nil => rfl
  | cons p rest ih => exact ih.trans acknowledgeOne_urgent

theorem EventUnit.acknowledgeAll_le : (pairs.foldl EventUnit.acknowledgeOne e).counters[i] ≤ e.counters[i] := by
  induction pairs generalizing e with
  | nil => exact Nat.le_refl _
  | cons p rest ih => exact ih.trans acknowledgeOne_le

/-- A kind that no pair names keeps its counter and its marker. -/
theorem EventUnit.acknowledgeAll_of_unnamed (h : ∀ p ∈ pairs, p.1 ≠ i.val + 1) :
    (pairs.foldl EventUnit.acknowledgeOne e).counters[i] = e.counters[i] ∧
    (pairs.foldl EventUnit.acknowledgeOne e).overflow[i] = e.overflow[i] := by
  induction pairs generalizing e with
  | nil => exact ⟨rfl, rfl⟩
  | cons p rest ih =>
    obtain ⟨hp, hrest⟩ := List.forall_mem_cons.mp h
    obtain ⟨hcounter, hmarker⟩ := acknowledgeOne_of_other (e := e) hp
    rw [← hcounter, ← hmarker]
    exact ih hrest

/-- Of pairs that name each kind once, the one that names a kind acts on it alone (R177). -/
theorem EventUnit.acknowledgeAll_of_named {seen : Nat} (hnodup : (pairs.map Prod.fst).Nodup)
    (h : (i.val + 1, seen) ∈ pairs) :
    (pairs.foldl EventUnit.acknowledgeOne e).counters[i] = e.counters[i] - seen ∧
    (pairs.foldl EventUnit.acknowledgeOne e).overflow[i] =
      (e.overflow[i] && decide (255 ≤ e.counters[i] - seen)) := by
  induction pairs generalizing e with
  | nil => simp at h
  | cons p rest ih =>
    obtain ⟨hfresh, hnodup⟩ := List.nodup_cons.mp hnodup
    rcases List.mem_cons.mp h with rfl | hrest
    · have hunnamed : ∀ q ∈ rest, q.1 ≠ i.val + 1 := fun q hq heq => hfresh (List.mem_map.mpr ⟨q, hq, heq⟩)
      obtain ⟨hcounter, hmarker⟩ := acknowledgeOne_of_named (e := e) (i := i) (p := (i.val + 1, seen)) rfl
      obtain ⟨hkept, hkept'⟩ := acknowledgeAll_of_unnamed (e := e.acknowledgeOne (i.val + 1, seen)) hunnamed
      exact ⟨hkept.trans hcounter, hkept'.trans hmarker⟩
    · have hother : p.1 ≠ i.val + 1 := fun heq => hfresh (List.mem_map.mpr ⟨_, hrest, heq.symm⟩)
      obtain ⟨hcounter, hmarker⟩ := acknowledgeOne_of_other (e := e) hother
      rw [← hcounter, ← hmarker]
      exact ih hnodup hrest

/-! ### Counters in range and lines that follow them (R174, R175) -/

theorem EventUnit.Sound.count (h : e.Sound) : (e.count k).Sound := by
  obtain ⟨hle, -⟩ := h
  refine ⟨fun i => count_le (hle i), ?_⟩
  rw [count_urgent]
  exact count_lines

theorem EventUnit.Sound.acknowledge (h : e.Sound) : (e.acknowledge pairs).Sound := by
  obtain ⟨hle, -⟩ := h
  rw [acknowledge_eq]
  exact driveLines_sound _ fun i => acknowledgeAll_le.trans (hle i)

theorem EventUnit.Sound.zero : e.zero.Sound := driveLines_sound _ (by simp)

theorem EventUnit.Sound.takeClasses (urgent : Vector Bool 24) (h : e.Sound) : (e.takeClasses urgent).Sound := by
  obtain ⟨hle, -⟩ := h
  exact driveLines_sound _ hle

end

/-- Queueing an ALERT counts TX_DROPPED when it is dropped, and nothing when it joins (R83). -/
theorem State.queueAlert_events (s : State) (kind : AlertKind) :
    (s.queueAlert kind).events = s.events ∨ (s.queueAlert kind).events = s.events.count .txDropped := by
  unfold State.queueAlert State.queueFrame
  split
  · exact .inl rfl
  · exact .inr rfl

theorem Move.keepsEventsSound {c : Option Instr} {s t : State} (h : Move c s t) (hs : s.events.Sound) :
    t.events.Sound := by
  cases h
  case reset => exact (by decide : EventUnit.reset.Sound)
  case load => exact hs.takeClasses _
  case count => exact hs.count
  case zeroEvents => exact .zero
  case acknowledge => exact hs.acknowledge
  case alert cfg kind hc ho =>
    rcases s.queueAlert_events kind with heq | heq <;> rw [heq]
    · exact hs
    · exact hs.count
  all_goals simpa [State.emptyStack] using hs

/-- Settles O48: every step is a run of moves, and each leaves the unit alone or is one of its own operations, which keep
the counters in range and end by driving the lines. -/
theorem everyStepKeepsTheEventUnitSound : Obligations.EveryStepKeepsTheEventUnitSound :=
  fun s t hs hstep => (step_moves s t hstep).keeps (fun _ _ hm => hm.keepsEventsSound) hs

/-- Settles O22: the counter is found at the kind's number less one, and an occurrence acts by the room it has there. -/
theorem occurrenceRaisesItsCounter : Obligations.OccurrenceRaisesItsCounter := by
  intro e k own hown
  obtain rfl : own = k.index := Fin.ext (Nat.succ.inj (hown.trans k.number_eq))
  refine ⟨fun hroom => ⟨e.count_of_room k hroom, EventUnit.count_overflow_of_room hroom⟩,
    fun hfull => ⟨EventUnit.count_counters_of_full hfull, e.count_of_full k hfull⟩,
    fun i hi => ⟨e.count_other k hi.symm, EventUnit.count_overflow_other hi.symm⟩, EventUnit.count_urgent,
    EventUnit.count_lines⟩

end Sys2Proof.Machine
end

section
/-! SUPPORT. The requests of the Event Unit and the Fault Record: READ EVENTS, READ FAULT and ACK EVENTS (R176, R177, R182,
R196). -/

namespace Sys2Proof.Machine

section
variable {s : State} {cfg : Configuration} {pairs : List (Nat × Nat)}

/-! ### READ EVENTS (R176, R196) -/

theorem exec_readEvents_unconfigured (hr : s.port.request = some .readEvents) (hc : s.port.config = none) :
    exec .readEvents s = .next (answered s .refusedUnconfigured []) := by
  simp [exec, execReadEvents, State.requested, State.takeConfigured, hc, hr, State.plainAnswer_eq]

theorem exec_readEvents_of (hr : s.port.request = some .readEvents) (hc : s.port.config = some cfg) :
    exec .readEvents s = .next (answered s .done s.events.report) := by
  simp only [exec, execReadEvents, State.requested, State.takeConfigured, hc, hr, decide_true, if_true]
  rfl

theorem EventUnit.report_length (e : EventUnit) : e.report.length = 27 := by
  simp [EventUnit.report, EventUnit.overflowMap, kindMap]

/-- The counters come first, one byte each. -/
theorem EventUnit.report_counter (e : EventUnit) (i : Fin 24) : fieldAt e.report i.val 1 = e.counters[i] % 256 := by
  refine fieldAt_ofNat ?_
  rw [EventUnit.report, List.getElem?_append_left (by simp)]
  simp

/-- The map of the markers stands behind the 24 counters. -/
theorem EventUnit.report_marker (e : EventUnit) (i : Fin 24) :
    (e.report.getD (24 + i.val / 8) 0#8).getLsbD (i.val % 8) = e.overflow[i] := by
  have hmap : e.report.drop 24 = kindMap fun i => e.overflow[i] := List.drop_left' (by simp)
  rw [List.getD_eq_getElem?_getD, ← List.getElem?_drop, hmap, ← List.getD_eq_getElem?_getD, kindMap_bit]

/-! ### READ FAULT (R182, R196) -/

theorem exec_readFault_unconfigured (hr : s.port.request = some .readFault) (hc : s.port.config = none) :
    exec .readFault s = .next (answered s .refusedUnconfigured []) := by
  simp [exec, execReadFault, State.requested, State.takeConfigured, hc, hr, State.plainAnswer_eq]

theorem exec_readFault_of (hr : s.port.request = some .readFault) (hc : s.port.config = some cfg) :
    exec .readFault s = .next (s.answer s.fault.response) := by
  simp [exec, execReadFault, State.requested, State.takeConfigured, hc, hr]

theorem TripCause.code_lt (x : TripCause) : x.code < 256 := by
  cases x
  case protection n => exact n.isLt.trans (by decide)
  all_goals decide

/-! ### ACK EVENTS (R177) -/

theorem exec_ackEvents_unconfigured (hr : s.port.request = some (.ackEvents pairs)) (hc : s.port.config = none) :
    exec .ackEvents s = .next (answered s .refusedUnconfigured []) := by
  simp [exec, execAckEvents, State.takeConfigured, hc, hr, State.plainAnswer_eq]

theorem exec_ackEvents_of (hr : s.port.request = some (.ackEvents pairs)) (hc : s.port.config = some cfg) :
    exec .ackEvents s = .next (s.takeAckEvents pairs) := by
  simp [exec, execAckEvents, State.takeConfigured, hc, hr]

theorem State.takeAckEvents_of_good (h : acknowledgeFault 1 [] pairs = none) :
    s.takeAckEvents pairs = { answered s .done [] with events := s.events.acknowledge pairs } := by
  rw [State.takeAckEvents, h]
  rfl

theorem State.takeAckEvents_of_fault {field : Nat} (h : acknowledgeFault 1 [] pairs = some field) :
    s.takeAckEvents pairs = answered s .refusedRange [BitVec.ofNat 8 field] := by
  rw [State.takeAckEvents, h]
  rfl

/-- The search for a pair at fault passes over pairs that are in range and name new kinds: each is two fields further. -/
theorem acknowledgeFault_append {good : List (Nat × Nat)} (rest : List (Nat × Nat)) (field : Nat) (earlier : List Nat)
    (hrange : ∀ p ∈ good, 1 ≤ p.1 ∧ p.1 ≤ 24) (hnodup : (good.map Prod.fst).Nodup)
    (hnew : ∀ p ∈ good, p.1 ∉ earlier) :
    acknowledgeFault field earlier (good ++ rest) =
      acknowledgeFault (field + 2 * good.length) ((good.map Prod.fst).reverse ++ earlier) rest := by
  induction good generalizing field earlier with
  | nil => rfl
  | cons p good ih =>
    obtain ⟨hp, hrange⟩ := List.forall_mem_cons.mp hrange
    obtain ⟨hpnew, hnew⟩ := List.forall_mem_cons.mp hnew
    obtain ⟨hunnamed, hnodup⟩ := List.nodup_cons.mp hnodup
    have hpasses : ¬ (p.1 < 1 ∨ 24 < p.1 ∨ p.1 ∈ earlier) := by
      rintro (hlow | hhigh | hold)
      · omega
      · omega
      · exact hpnew hold
    have hnew' : ∀ q ∈ good, q.1 ∉ p.1 :: earlier := fun q hq hmem =>
      (List.mem_cons.mp hmem).elim (fun heq => hunnamed (List.mem_map.mpr ⟨q, hq, heq⟩)) (hnew q hq)
    rw [List.cons_append, acknowledgeFault, if_neg hpasses, ih _ _ hrange hnodup hnew']
    simp [Nat.mul_add, Nat.add_comm, Nat.add_assoc]

theorem acknowledgeFault_of_good (hrange : ∀ p ∈ pairs, 1 ≤ p.1 ∧ p.1 ≤ 24) (hnodup : (pairs.map Prod.fst).Nodup) :
    acknowledgeFault 1 [] pairs = none := by
  have hpassed := acknowledgeFault_append [] 1 [] hrange hnodup (by simp)
  rw [List.append_nil] at hpassed
  exact hpassed

/-- The first pair at fault gives its kind's field, that of the pair's place counted from 0 (assumption 30). -/
theorem acknowledgeFault_of_fault {k : Nat} (hk : k < pairs.length)
    (hfault : pairs[k].1 < 1 ∨ 24 < pairs[k].1 ∨ pairs[k].1 ∈ (pairs.take k).map Prod.fst)
    (hrange : ∀ p ∈ pairs.take k, 1 ≤ p.1 ∧ p.1 ≤ 24) (hnodup : ((pairs.take k).map Prod.fst).Nodup) :
    acknowledgeFault 1 [] pairs = some (2 * k + 1) := by
  have hpassed := acknowledgeFault_append (pairs.drop k) 1 [] hrange hnodup (by simp)
  have hlength : (pairs.take k).length = k := List.length_take_of_le hk.le
  rw [List.take_append_drop, hlength, List.drop_eq_getElem_cons hk, acknowledgeFault, List.append_nil,
    if_pos (by simpa only [List.mem_reverse] using hfault), Nat.add_comm] at hpassed
  exact hpassed

/-- What the statement says of the pair at place `k` is that it fails one of the checks. -/
theorem pair_at_fault {k : Nat} (hk : k < pairs.length)
    (h : pairs[k]?.map Prod.fst = some 0 ∨ (∃ n, 24 < n ∧ pairs[k]?.map Prod.fst = some n) ∨
      ∃ j, j < k ∧ pairs[j]?.map Prod.fst = pairs[k]?.map Prod.fst) :
    pairs[k].1 < 1 ∨ 24 < pairs[k].1 ∨ pairs[k].1 ∈ (pairs.take k).map Prod.fst := by
  have hat : pairs[k]?.map Prod.fst = some pairs[k].1 := by simp [hk]
  rw [hat] at h
  rcases h with hzero | ⟨n, hn, hnumber⟩ | ⟨j, hj, hrepeat⟩
  · exact .inl (Nat.lt_one_iff.mpr (Option.some.inj hzero))
  · exact .inr (.inl (Option.some.inj hnumber ▸ hn))
  · refine .inr (.inr (List.mem_of_getElem? (i := j) ?_))
    rw [List.getElem?_map, List.getElem?_take_of_lt hj, hrepeat]

end

/-- Settles O19: both reports are the fields of R196 one behind the other, and each is read back at its place. -/
theorem readEventsAndReadFaultReport : Obligations.ReadEventsAndReadFaultReport := by
  refine ⟨fun s hc => ⟨fun hr => exec_readEvents_unconfigured hr hc, fun hr => exec_readFault_unconfigured hr hc⟩,
    fun s cfg hc => ⟨fun hr => ?_, fun hr hnone => ?_, fun p hr hp => ?_⟩⟩
  · exact ⟨s.events.report, exec_readEvents_of hr hc, s.events.report_length,
      fun i => ⟨s.events.report_counter i, s.events.report_marker i⟩⟩
  · rw [exec_readFault_of hr hc, FaultRecord.response, hnone]
    rfl
  · have hcause : fieldAt (p.report s.fault.laterTrips) 0 1 = p.cause.code := fieldAt_code rfl p.cause.code_lt
    have hstate : fieldAt (p.report s.fault.laterTrips) 1 1 = stateNumber p.stateBefore :=
      fieldAt_code (by rw [← stateCode_eq]; rfl) (stateNumber_lt _)
    have htracker : fieldAt (p.report s.fault.laterTrips) 13 1 = p.tracker.code := fieldAt_code rfl p.tracker.code_lt
    have hclassifier : fieldAt (p.report s.fault.laterTrips) 14 1 = p.classifier.code :=
      fieldAt_code rfl p.classifier.code_lt
    rw [exec_readFault_of hr hc, FaultRecord.response, hp]
    exact ⟨p.report s.fault.laterTrips, rfl, rfl, hcause.trans (by cases p.cause <;> rfl), hstate,
      fieldAt_be16 rfl, fieldAt_be16 rfl, fieldAt_be16 rfl, fieldAt_be16 rfl, fieldAt_be16Signed rfl, fieldAt_ofNat rfl,
      htracker.trans (by cases p.tracker <;> rfl), hclassifier.trans (by cases p.classifier <;> rfl),
      fieldAt_ofNat rfl, fieldAt_ofNat rfl⟩

/-- Settles O21: pairs that pass both checks act each on its own kind, and the first pair at fault gives its field alone. -/
theorem ackEventsSubtractsWhatWasSeen : Obligations.AckEventsSubtractsWhatWasSeen := by
  refine ⟨fun s pairs hr hc => exec_ackEvents_unconfigured hr hc, fun s cfg pairs ⟨hc, _, hr⟩ => ?_⟩
  rw [exec_ackEvents_of hr hc]
  refine ⟨fun hrange hnodup => ?_, fun k hk hfault hrange hnodup => ?_⟩
  · obtain ⟨hlineU, hlineR⟩ := driveLines_lines (pairs.foldl EventUnit.acknowledgeOne s.events)
    rw [State.takeAckEvents_of_good (acknowledgeFault_of_good hrange hnodup), EventUnit.acknowledge_eq]
    exact ⟨_, rfl, EventUnit.acknowledgeAll_urgent, hlineU, hlineR,
      fun i => ⟨fun seen => EventUnit.acknowledgeAll_of_named hnodup, EventUnit.acknowledgeAll_of_unnamed⟩⟩
  · rw [State.takeAckEvents_of_fault (acknowledgeFault_of_fault hk (pair_at_fault hk hfault) hrange hnodup)]

end Sys2Proof.Machine
end

section
/-! SUPPORT. The transfers of the Supervisor Port: the bits on SDI and SDO, what a transfer sends and how the message of
one that ends is judged (R184, R185, R187 to R189, R195). -/

namespace Sys2Proof.Machine

/-! ### Bytes as bits (R185, R187) -/

theorem carried_cons (b : Byte) (bytes : List Byte) : carried (b :: bytes) = bitsOfByte b ++ carried bytes := rfl

theorem bitsOfByte_getD (b : Byte) {i : Nat} (hi : i < 8) : (bitsOfByte b).getD i false = b.getLsbD (7 - i) := by
  interval_cases i <;> rfl

/-- Bit `i` of byte `j` crosses at place 8 j + i, and behind the last byte come bytes of 0. -/
theorem carried_getD (bytes : List Byte) (j : Nat) {i : Nat} (hi : i < 8) :
    (carried bytes).getD (8 * j + i) false = (bytes.getD j 0#8).getLsbD (7 - i) := by
  induction bytes generalizing j with
  | nil => simp [carried]
  | cons b bytes ih =>
    have height : (bitsOfByte b).length = 8 := rfl
    rw [carried_cons]
    cases j with
    | zero =>
      rw [List.getD_append _ _ _ _ (by omega), Nat.mul_zero, Nat.zero_add, bitsOfByte_getD b hi, List.getD_cons_zero]
    | succ j =>
      rw [List.getD_append_right _ _ _ _ (by omega), height, show 8 * (j + 1) + i - 8 = 8 * j + i by omega, ih,
        List.getD_cons_succ]

theorem ofBoolListBE_bitsOfByte (b : Byte) : (BitVec.ofBoolListBE (bitsOfByte b) : Byte) = b := by
  refine BitVec.eq_of_getMsbD_eq fun i (hi : i < 8) => ?_
  have hbit : b.getMsbD i = b.getLsbD (7 - i) := by
    rw [BitVec.getMsbD_eq_getLsbD, decide_eq_true hi, Bool.true_and]
  exact BitVec.getMsbD_ofBoolListBE.trans ((bitsOfByte_getD b hi).trans hbit.symm)

theorem bytesOfBits_bitsOfByte_append (b : Byte) (bits : List Bool) :
    bytesOfBits (bitsOfByte b ++ bits) = b :: bytesOfBits bits :=
  congrArg (· :: bytesOfBits bits) (ofBoolListBE_bitsOfByte b)

/-- Fewer than eight bits make no byte (R187). -/
theorem bytesOfBits_unfinished {bits : List Bool} (h : bits.length < 8) : bytesOfBits bits = [] := by
  fun_cases bytesOfBits bits with
  | case1 => simp only [List.length_cons] at h; omega
  | case2 => rfl

/-! ### What a transfer sends (R187, R189, R195) -/

theorem codeNumber_eq (c : ResponseCode) : BitVec.ofNat 8 c.number = codeNumber c := by cases c <;> rfl

theorem Response.bytes_eq (r : Response) :
    r.bytes = codeNumber r.code :: BitVec.ofNat 8 r.data.length :: r.data := by
  rw [Response.bytes, codeNumber_eq]

section
variable {s : State}

theorem exec_transferStart_idle (h : s.port.transfer = none) :
    exec .transferStart s = .next (s.setPort s.port.beginTransfer) :=
  congrArg Host.Outcome.next (if_pos h)

theorem SupervisorPort.beginTransfer_under_srst {p : SupervisorPort} (ht : p.transfer = none)
    (h : p.srstAsserted = true) : p.beginTransfer = { p with sdo := [] } := by
  rw [SupervisorPort.beginTransfer, if_pos h, ← ht]

theorem SupervisorPort.beginTransfer_sends {p : SupervisorPort} (h : p.srstAsserted = false) :
    p.beginTransfer = { p with transfer := some [], sdo := carried p.chosen, response := none } :=
  if_neg (by simp [h])

theorem SupervisorPort.chosen_response {p : SupervisorPort} {r : Response} (h : p.response = some r) :
    p.chosen = codeNumber r.code :: BitVec.ofNat 8 r.data.length :: r.data := by
  rw [SupervisorPort.chosen, h]
  exact r.bytes_eq

theorem SupervisorPort.chosen_notReady {p : SupervisorPort} (h : p.response = none) :
    p.chosen = [4#8, 1#8, if p.request = none then 0#8 else 1#8] := by
  rw [SupervisorPort.chosen, h]
  cases p.request <;> rfl

/-! ### The forms of the requests (R184, R196) -/

theorem knownKind_iff {kind : Nat} : knownKind kind = true ↔ 1 ≤ kind ∧ kind ≤ 12 := within_iff _ _ _

theorem allowedLength_iff {kind length : Nat} (h : knownKind kind = true) :
    allowedLength kind length = true ↔ lengthAllowed kind length := by
  have := knownKind_iff.mp h
  unfold allowedLength lengthAllowed
  split_ifs <;> simp only [Bool.and_eq_true, decide_eq_true_eq] <;> omega

/-- An even number of bytes is read as pairs, all of it (R177, R196). -/
theorem exists_pairs_of_even (body : List Byte) (h : body.length % 2 = 0) :
    ∃ pairs : List (Byte × Byte), body = pairs.flatMap (fun p => [p.1, p.2]) ∧
      pairsOf body = pairs.map fun p => (p.1.toNat, p.2.toNat) := by
  induction body using pairsOf.induct with
  | case1 k n rest ih =>
    obtain ⟨pairs, hbody, hpairs⟩ := ih (by simp only [List.length_cons] at h; omega)
    exact ⟨(k, n) :: pairs, by rw [List.flatMap_cons, ← hbody]; rfl, by rw [pairsOf, hpairs, List.map_cons]⟩
  | case2 body hshort =>
    match body, hshort, h with
    | [], _, _ => exact ⟨[], rfl, rfl⟩
    | k :: n :: rest, hshort, _ => exact absurd rfl (hshort k n rest)

/-- Parameters of an allowed length are those of one request (R184). -/
theorem exists_requestOf {kind : Nat} {body : List Byte} (h : lengthAllowed kind body.length) :
    ∃ r, requestOf kind body = some r ∧ spells kind body r := by
  rcases h with ⟨rfl, -⟩ | ⟨rfl, htwo⟩ | ⟨hkind, hone⟩ | ⟨rfl, -, heven⟩ | ⟨hkind, -⟩
  · exact ⟨_, rfl, by simp [spells]⟩
  · obtain ⟨hi, lo, rfl⟩ := List.length_eq_two.mp htwo
    exact ⟨_, rfl, by simp [spells, unsignedBE]⟩
  · obtain ⟨n, rfl⟩ := List.length_eq_one_iff.mp hone
    rcases hkind with rfl | rfl <;> exact ⟨_, rfl, by simp [spells, unsignedBE]⟩
  · obtain ⟨pairs, hbody, hpairs⟩ := exists_pairs_of_even body heven
    exact ⟨.ackEvents (pairsOf body), rfl, by simpa [spells] using ⟨pairs, hbody, hpairs⟩⟩
  · rcases hkind with rfl | rfl | rfl | rfl | rfl | rfl | rfl <;> exact ⟨_, rfl, by simp [spells]⟩

/-! ### The judgement of a message (R188) -/

theorem exec_transferEnd_of_none (sdi : List Bool) (h : s.port.transfer = none) :
    exec (.transferEnd sdi) s = .next s := by
  simp [exec, execTransferEnd, h]

theorem exec_transferEnd_of_some {received message : List Byte} {p : SupervisorPort} (sdi : List Bool)
    (h : s.port.transfer = some received) (hp : p = { s.port with transfer := none, sdo := [] })
    (hm : message = received ++ bytesOfBits sdi) : exec (.transferEnd sdi) s = .next ((s.setPort p).judge message) := by
  simp [exec, execTransferEnd, h, hp, hm]

/-- A refusal by the port itself finds no request in progress, and leaves none. -/
theorem State.answer_of_no_request (r : Response) (hr : s.port.request = none) :
    s.answer r = s.setPort { s.port with response := some r } := by
  rw [State.answer, ← hr]

theorem State.judge_passed_over {kind : Byte} (rest : List Byte) (h : kind = 0#8 ∨ s.port.request ≠ none) :
    s.judge (kind :: rest) = s := by
  rcases h with rfl | hr
  · rfl
  · simp [State.judge, Option.isSome_iff_ne_none.mpr hr]

theorem State.judge_kind_alone {kind : Byte} (hkind : kind ≠ 0#8) (hr : s.port.request = none) :
    s.judge [kind] = s.answer (refusedRange 0) := by
  simp [State.judge, hkind, hr]

theorem State.judge_short {kind length : Byte} {parameters : List Byte} (hkind : kind ≠ 0#8)
    (hr : s.port.request = none) (h : parameters.length < length.toNat) :
    s.judge (kind :: length :: parameters) = s.answer (refusedRange 0) := by
  simp [State.judge, hkind, hr, h]

theorem State.judge_complete {kind length : Byte} {parameters : List Byte} (hkind : kind ≠ 0#8)
    (hr : s.port.request = none) (h : length.toNat ≤ parameters.length) :
    s.judge (kind :: length :: parameters) = s.judgeComplete kind.toNat (parameters.take length.toNat) := by
  simp [State.judge, hkind, hr, h]

variable {kind : Nat} {body : List Byte}

theorem State.judgeComplete_unknown (h : knownKind kind = false) :
    s.judgeComplete kind body = s.answer (plainResponse .unknownRequest) := by
  simp [State.judgeComplete, h]

theorem State.judgeComplete_unconfigured (h : knownKind kind = true) (hc : s.port.config = none) (h1 : kind ≠ 1)
    (h3 : kind ≠ 3) : s.judgeComplete kind body = s.answer (plainResponse .refusedUnconfigured) := by
  simp [State.judgeComplete, h, hc, h1, h3]

/-- A known kind that is not held back for want of a configuration is taken or refused by its length. -/
theorem State.judgeComplete_let_through (h : knownKind kind = true)
    (hpasses : s.port.config ≠ none ∨ kind = 1 ∨ kind = 3) :
    s.judgeComplete kind body =
      if allowedLength kind body.length then s.setPort { s.port with request := requestOf kind body }
      else s.answer (refusedRange 0) := by
  have hstopped : ¬ (s.port.config = none ∧ kind ≠ 1 ∧ kind ≠ 3) := by tauto
  rw [State.judgeComplete, if_neg (by simp [h]), if_neg hstopped]
  cases allowedLength kind body.length <;> rfl

end

/-- Settles O6: a transfer that begins sends the bytes chosen, each bit at its place. -/
theorem transferStartChoosesWhatIsSent : Obligations.TransferStartChoosesWhatIsSent := by
  refine fun s => ⟨fun ht hs => ⟨fun r hr => ?_, fun hr => ?_⟩, fun ht hs => ?_, rfl, fun bytes hb j i hi => ?_⟩
  · rw [exec_transferStart_idle ht, SupervisorPort.beginTransfer_sends hs, SupervisorPort.chosen_response hr]
    rfl
  · rw [exec_transferStart_idle ht, SupervisorPort.beginTransfer_sends hs, SupervisorPort.chosen_notReady hr, ← hr]
    rfl
  · rw [exec_transferStart_idle ht, SupervisorPort.beginTransfer_under_srst ht hs]
    rfl
  · rw [SupervisorPort.sdoBit, hb, carried_getD bytes j hi]

/-- Settles O7: each row of the table of R188 is one rule of the judgement, for the part whose transfer is over. -/
theorem transferEndJudgesItsMessage : Obligations.TransferEndJudgesItsMessage := by
  refine ⟨fun s sdi ht => exec_transferEnd_of_none sdi ht, fun s received sdi p message ht hp hm => ?_⟩
  have hrequest : (s.setPort p).port.request = s.port.request := by rw [State.setPort_port, hp]
  have hconfig : (s.setPort p).port.config = s.port.config := by rw [State.setPort_port, hp]
  rw [exec_transferEnd_of_some sdi ht hp hm, ← hrequest, ← hconfig]
  refine ⟨?_, ?_⟩
  · rintro rfl
    rfl
  rintro kind rest rfl
  refine ⟨fun h => ?_, fun hkind hr => ⟨?_, ?_⟩⟩
  · rw [State.judge_passed_over rest h]
    rfl
  · rintro rfl
    rw [State.judge_kind_alone hkind hr, State.answer_of_no_request _ hr]
    rfl
  rintro length parameters rfl
  have hpos : 1 ≤ kind.toNat := Nat.one_le_iff_ne_zero.mpr fun hzero => hkind (BitVec.eq_of_toNat_eq hzero)
  have known (h : kind.toNat ≤ 12) : knownKind kind.toNat = true := knownKind_iff.mpr ⟨hpos, h⟩
  have taken (h : length.toNat ≤ parameters.length) : (parameters.take length.toNat).length = length.toNat :=
    List.length_take_of_le h
  refine ⟨fun hshort => ?_, fun hlen hunknown => ?_, fun hlen hk hc h1 h3 => ?_, fun hlen hk hpasses hnot => ?_,
    fun hlen hk hpasses hallowed => ?_⟩
  · rw [State.judge_short hkind hr hshort, State.answer_of_no_request _ hr]
    rfl
  · have hnot : knownKind kind.toNat = false :=
      Bool.eq_false_iff.mpr fun h => Nat.not_le.mpr hunknown (knownKind_iff.mp h).2
    rw [State.judge_complete hkind hr hlen, State.judgeComplete_unknown hnot, State.answer_of_no_request _ hr]
    rfl
  · rw [State.judge_complete hkind hr hlen, State.judgeComplete_unconfigured (known hk) hc h1 h3,
      State.answer_of_no_request _ hr]
    rfl
  · rw [State.judge_complete hkind hr hlen, State.judgeComplete_let_through (known hk) hpasses, taken hlen,
      if_neg (mt (allowedLength_iff (known hk)).mp hnot), State.answer_of_no_request _ hr]
    rfl
  · obtain ⟨r, hspelt, hspells⟩ := exists_requestOf ((taken hlen).symm ▸ hallowed)
    refine ⟨r, hspells, ?_⟩
    rw [State.judge_complete hkind hr hlen, State.judgeComplete_let_through (known hk) hpasses, taken hlen,
      if_pos ((allowedLength_iff (known hk)).mpr hallowed), hspelt]
    rfl

/-- Settles O8: each byte is read back from its eight bits in front, and the tail makes no byte. -/
theorem transferBitsSpellTheirBytes : Obligations.TransferBitsSpellTheirBytes := by
  intro bytes unfinished h
  induction bytes with
  | nil => exact bytesOfBits_unfinished h
  | cons b bytes ih => rw [carried_cons, List.append_assoc, bytesOfBits_bitsOfByte_append, ih]

end Sys2Proof.Machine
end

section
/-! SUPPORT. LOAD CONFIG refused, the check as the table of R190 and R191 both ways, and SET DEMAND (R134, R193). -/

namespace Sys2Proof.Machine

/-! ### The check and the table (R190, R191) -/

theorem envelopePasses_of_check {p : List Byte} (hl : p.length = 115) (hn : within (envelopeCount p) 1 8 = true)
    (h : envelopeInRange (envelopeOf p) (fieldValue p 25) = true) : envelopePasses p = true := by
  obtain ⟨hlow, hhigh⟩ := (within_iff _ _ _).mp hn
  obtain ⟨n, hcount⟩ : ∃ n, envelopeCount p = n + 1 := ⟨envelopeCount p - 1, by omega⟩
  have hlast : ((List.range (n + 1)).map (pointAt p)).getLast? = some (pointAt p n) := by
    rw [List.range_succ, List.map_append, List.map_singleton, List.getLast?_concat]
  have hhead : ((List.range (n + 1)).map (pointAt p)).head? = some (pointAt p 0) := by
    rw [List.range_succ_eq_map, List.map_cons, List.head?_cons]
  simp only [envelopeInRange, envelopeOf_eq p hl hhigh, hcount, hhead, hlast, Bool.and_eq_true, decide_eq_true_eq,
    List.all_eq_true, List.forall_mem_map, List.mem_range, envelope_pairwise_range] at h
  obtain ⟨⟨⟨hsteps, hfirst⟩, htimes⟩, hfigure⟩ := h
  simp only [envelopePasses, ← envelopeCount_eq, hcount, Bool.and_eq_true, decide_eq_true_eq, List.all_eq_true,
    List.mem_range]
  exact ⟨⟨⟨Nat.le_add_left 1 n, hcount ▸ hhigh, hfirst, hfigure⟩, htimes⟩, hsteps⟩

theorem envelope_check_eq {p : List Byte} (hl : p.length = 115) :
    (within (envelopeCount p) 1 8 && envelopeInRange (envelopeOf p) (fieldValue p 25)) = envelopePasses p := by
  rw [Bool.eq_iff_iff, Bool.and_eq_true]
  exact ⟨fun ⟨hn, h⟩ => envelopePasses_of_check hl hn h, envelope_check p hl⟩

theorem inputs_check_eq {p : List Byte} (hl : p.length = 115) : inputsInRange p = fieldPasses p 42 := by
  refine Bool.eq_iff_iff.mpr ⟨fun h => ?_, inputs_check p hl⟩
  have hbytes : fieldBytes p 42 = (p.drop 108).take 4 := rfl
  simp only [inputsInRange, hbytes, List.all_eq_true, Bool.and_eq_true, decide_eq_true_eq] at h
  simp only [fieldPasses, List.all_eq_true, List.mem_range, decide_eq_true_eq]
  intro i hi
  have hbyte : p[108 + i]? = some p[108 + i] := List.getElem?_eq_getElem (by omega)
  rw [fieldAt_byte hbyte]
  exact h _ (List.mem_of_getElem? (i := i) (by rw [List.getElem?_take_of_lt hi, List.getElem?_drop, hbyte]))

/-- The model's list of checks is the table of the statements, field by field. -/
theorem configurationChecks_eq {p : List Byte} (hl : p.length = 115) :
    configurationChecks p = (List.range' 1 43).map fun k => (k, fieldPasses p k) := by
  have hnominal : (decide (fieldValue p 7 = 50) || decide (fieldValue p 7 = 60)) = fieldPasses p 7 :=
    (Bool.decide_or _ _).symm
  have hlimits (x low high : Nat) : within x low high = decide (low ≤ x ∧ x ≤ high) := (Bool.decide_and _ _).symm
  simp only [configurationChecks, hnominal, envelope_check_eq hl, inputs_check_eq hl]
  simp only [hlimits]
  rfl

theorem configurationFault_eq {p : List Byte} (hl : p.length = 115) :
    configurationFault p = (List.range' 1 43).find? fun k => !fieldPasses p k := by
  rw [configurationFault, configurationChecks_eq hl, List.find?_map, Option.map_map]
  exact Option.map_id'

theorem configurationFault_eq_none_iff {p : List Byte} (hl : p.length = 115) :
    configurationFault p = none ↔ everyFieldPasses p := by
  rw [configurationFault_eq hl, List.find?_range'_eq_none]
  simp only [Bool.not_not, everyFieldPasses]
  exact forall₂_congr fun k _ => by rw [show k < 1 + 43 ↔ k ≤ 43 by omega]

theorem configurationFault_of_first {p : List Byte} {k : Nat} (hl : p.length = 115) (hlow : 1 ≤ k) (hhigh : k ≤ 43)
    (hfault : fieldPasses p k = false) (hfirst : ∀ j, 1 ≤ j → j < k → fieldPasses p j = true) :
    configurationFault p = some k := by
  rw [configurationFault_eq hl, List.find?_range'_eq_some, hfault, List.mem_range'_1]
  exact ⟨rfl, ⟨hlow, by omega⟩, fun j hj hjk => by rw [hfirst j hj hjk]; rfl⟩

/-! ### The requests -/

section
variable {s : State} {p : List Byte}

theorem exec_loadConfig_of (plant : PlantInputs) (hr : s.port.request = some (.loadConfig p)) :
    exec (.loadConfig plant) s = .next (s.takeLoadConfig p plant) := by
  simp [exec, execLoadConfig, hr]

theorem State.takeLoadConfig_of_length (plant : PlantInputs) (hl : p.length ≠ 115) :
    s.takeLoadConfig p plant = answered s .refusedRange [0#8] := if_pos hl

theorem State.takeLoadConfig_of_configured (plant : PlantInputs) (hl : p.length = 115) (hc : s.port.config ≠ none) :
    s.takeLoadConfig p plant = answered s .refusedState [] := by
  rw [State.takeLoadConfig, if_neg (not_not.mpr hl), if_pos (Option.isSome_iff_ne_none.mpr hc), State.plainAnswer_eq]

theorem State.takeLoadConfig_of_fault {k : Nat} (plant : PlantInputs) (hl : p.length = 115) (hc : s.port.config = none)
    (h : configurationFault p = some k) :
    s.takeLoadConfig p plant = answered s .refusedRange [BitVec.ofNat 8 k] := by
  rw [State.takeLoadConfig, if_neg (not_not.mpr hl), if_neg (by simp [hc]), h]
  rfl

variable {cfg : Configuration} {value : Nat}

theorem exec_setDemand_unconfigured (hr : s.port.request = some (.setDemand value)) (hc : s.port.config = none) :
    exec .setDemand s = .next (answered s .refusedUnconfigured []) := by
  simp [exec, execSetDemand, State.takeConfigured, hc, hr, State.plainAnswer_eq]

theorem exec_setDemand_of (hr : s.port.request = some (.setDemand value)) (hc : s.port.config = some cfg) :
    exec .setDemand s = .next (s.takeSetDemand cfg value) := by
  simp [exec, execSetDemand, State.takeConfigured, hc, hr]

theorem State.takeSetDemand_eq (s : State) (cfg : Configuration) (value : Nat) :
    s.takeSetDemand cfg value =
      { answered s .done [BitVec.ofNat 8 (min value cfg.rating / 256), BitVec.ofNat 8 (min value cfg.rating)] with
        allocator := s.allocator.storeDemand s.station.state (min value cfg.rating)
        events := if cfg.rating < value then s.events.count .demandClamped else s.events } := by
  unfold State.takeSetDemand
  by_cases habove : cfg.rating < value
  · rw [decide_eq_true habove, if_pos habove]
    rfl
  · rw [decide_eq_false habove, if_neg habove]
    rfl

end

/-- Settles O10: the length, the part's state and the first field of the table at fault, in that order. -/
theorem loadConfigRefusedAtTheFirstFault : Obligations.LoadConfigRefusedAtTheFirstFault := by
  intro s p plant hr
  rw [exec_loadConfig_of plant hr]
  refine ⟨fun hl => ?_, fun hl hc => ?_, fun hl hc k hlow hhigh hfault hfirst => ?_⟩
  · rw [State.takeLoadConfig_of_length plant hl]
  · rw [State.takeLoadConfig_of_configured plant hl hc]
  · rw [State.takeLoadConfig_of_fault plant hl hc (configurationFault_of_first hl hlow hhigh hfault hfirst)]

/-- Settles O11: check and table agree field by field, and what passes is read at its bytes within the ranges. -/
theorem configurationIsReadAndCheckedByItsTable : Obligations.ConfigurationIsReadAndCheckedByItsTable := by
  refine fun p hl => ⟨configurationFault_eq_none_iff hl, fun hpasses => ?_⟩
  have hcount := (envelope_check p hl (hpasses 28 (by decide) (by decide))).1
  have hread := configurationOf_eq p hl ((within_iff _ _ _).mp hcount).2
  exact ⟨hread, hread ▸ configurationOf_inRange p hl ((configurationFault_eq_none_iff hl).mpr hpasses)⟩

/-- Settles O12: the value stored and answered is the lesser one, and one above I_r is counted. -/
theorem setDemandStoresTheClampedValue : Obligations.SetDemandStoresTheClampedValue := by
  refine ⟨fun s value hr hc => exec_setDemand_unconfigured hr hc, fun s cfg value ⟨hc, _, hr⟩ => ?_⟩
  rw [exec_setDemand_of hr hc, State.takeSetDemand_eq]
  exact ⟨_, rfl, rfl⟩

end Sys2Proof.Machine
end

section
/-! SUPPORT. The queue: a step runs the command at its front (O1), and every command completes and leaves those that wait
alone (O3). -/

namespace Sys2Proof.Machine

/-! ### The step on a queue that holds a command -/

theorem step_cons {s : State} {c : Instr} {rest : List Instr} (hp : s.pending = c :: rest) :
    step s = exec c (s.setPending rest) := by
  simp only [step, hp]

/-- Settles O1: the front command runs on the state whose queue is the rest. -/
theorem stepRunsTheFrontCommand : Obligations.StepRunsTheFrontCommand :=
  fun _ _ _ hp => step_cons hp

/-! ### The queue through the operations that have no frame lemma -/

section
variable {s : State}

theorem State.takeLoadConfig_pending (s : State) (p : List Byte) (plant : PlantInputs) :
    (s.takeLoadConfig p plant).pending = s.pending := by
  unfold State.takeLoadConfig
  (repeat' split) <;> rfl

theorem State.takeSample_pending (s : State) (n : Fin 4) (level : Bool) :
    (s.takeSample n level).pending = s.pending := by
  rcases s.takeSample_cases n level with heq | ⟨cfg, -, -, heq⟩ <;> rw [heq] <;> simp

/-! ### The queue through the shapes of a command -/

/-- An effect under a guard, with nothing done otherwise. -/
theorem State.guarded_pending {p : Prop} [Decidable p] {u : State} (hu : u.pending = s.pending) :
    (if p then u else s).pending = s.pending := by
  split
  · exact hu
  · rfl

theorem State.configured_pending {f : Configuration → State} (hf : ∀ cfg, (f cfg).pending = s.pending) :
    (s.configured f).pending = s.pending := by
  unfold State.configured
  split
  · rfl
  · exact hf _

/-- A command that needs the configuration and acts when its event has come about. -/
theorem State.whenDue_pending {due : Configuration → Bool} {act : Configuration → State}
    (hact : ∀ cfg, (act cfg).pending = s.pending) :
    (s.configured fun cfg => if due cfg then act cfg else s).pending = s.pending :=
  State.configured_pending fun cfg => State.guarded_pending (hact cfg)

/-- The refusal in a part without a configuration is an answer, which leaves the queue alone too. -/
theorem State.takeConfigured_pending {f : Configuration → State} (hf : ∀ cfg, (f cfg).pending = s.pending) :
    (s.takeConfigured f).pending = s.pending := by
  unfold State.takeConfigured
  split
  · rfl
  · exact hf _

end

/-! ### Every command -/

/-- No arm of the dispatch stops the part. -/
theorem exec_completes (c : Instr) (s : State) : ∃ t, exec c s = .next t := by
  cases c <;> exact ⟨_, rfl⟩

theorem exec_pending (c : Instr) {s t : State} (hexec : exec c s = .next t) : t.pending = s.pending := by
  cases c <;> obtain rfl := Host.Outcome.next.inj hexec
  case powerOnReset | srstRelease => rfl
  case srst => simp
  case protectionEdge n level =>
    split
    · rfl
    · exact s.takeSample_pending n level
  case transferEnd =>
    split
    · rfl
    · simp
  case loadConfig plant =>
    split
    · exact s.takeLoadConfig_pending _ plant
    · rfl
  case setDemand | readPeer | forgetPeer | ackEvents =>
    split
    · exact State.takeConfigured_pending fun _ => by simp
    · rfl
  case start | stop | standby | clearFault | readEvents | readFault =>
    exact State.guarded_pending (State.takeConfigured_pending fun _ => by simp)
  case frameAbandoned | collision =>
    refine State.configured_pending fun _ => ?_
    split
    · rfl
    · exact State.guarded_pending (by simp)
  case capture => exact State.configured_pending fun _ => by simp
  case lossOfSync | sectorBoundary | freeRunningBoundary | sample | recoveryConfirmTimerExpiry | frequencyTimerExpiry |
      blockedTimerExpiry | lowLoadTimerExpiry | shareUpdate | firing | frameReceived | accessSlot | peerSilent | peerLost =>
    exact State.whenDue_pending fun _ => by simp
  case transferStart | readStatus | pulseEnd | seekingEnd | lineBusy | interframeGapEnd | frameCompleted | alertExpiry =>
    exact State.guarded_pending (by simp)

/-- Settles O3: each command answers a next state, and that state holds the queue it was given. -/
theorem everyCommandCompletesAndKeepsTheQueue : Obligations.EveryCommandCompletesAndKeepsTheQueue := by
  intro c s
  obtain ⟨t, ht⟩ := exec_completes c s
  exact ⟨t, ht, exec_pending c ht⟩

end Sys2Proof.Machine
end
